-- ==== Sys2Proof/Word.lean ====
section
/-! DEFINITION. The words of the machine: bytes, bus addresses and stimulus words. -/

namespace Sys2Proof

/-- Every register and every wave-table byte is 8 bits (R9, R83). -/
abbrev Byte := BitVec 8

/-- A bus address is 16 bits (R80). -/
abbrev Addr := BitVec 16

/-- A stimulus is a 26-bit word (R110). -/
abbrev StimulusWord := BitVec 26

end Sys2Proof
end

