-- ==== Sys2Proof/Config.lean ====
section
/-! DEFINITION. The parameters of 00_scope.md R8, which the host fixes before the first stimulus (R513, R543). -/

namespace Sys2Proof

/-- `WAVE_RAM_ACCESS` of R8: what a wave-table access does while channel 3 plays (R341 to R344). -/
inductive WaveAccess where
  | direct
  | arbitrated
  deriving DecidableEq, Repr

/-- The parameters of R8. The state carries one of these as a field that no step writes, so what is said of
every state is said of every configuration. `dutyN` is `DUTY_TABLE[N]` (R273). -/
structure Config where
  masterClockHz    : Nat
  sampleRateHz     : Nat
  bufferCapacity   : Nat
  sampleMax        : Byte
  duty0            : Byte
  duty1            : Byte
  duty2            : Byte
  duty3            : Byte
  waveRamAccess    : WaveAccess
  waveAccessWindow : Nat
  waveBusyValue    : Byte
  deriving DecidableEq, Repr

end Sys2Proof
end

