-- ==== Sys2Proof/Syntax.lean ====
section
/-! DEFINITION. The stimuli as data: the register names of R80 and one constructor per row of spec/opcode_table.json. -/

namespace Sys2Proof

/-- The 23 registers of R21, named as in R41 to R63. -/
inductive Reg where
  | nr10 | nr11 | nr12 | nr13 | nr14
  | nr20 | nr21 | nr22 | nr23 | nr24
  | nr30 | nr31 | nr32 | nr33 | nr34
  | nr40 | nr41 | nr42 | nr43 | nr44
  | nr50 | nr51 | nr52
  deriving DecidableEq, Repr

/-- The four channels of R200. -/
inductive Channel where
  | ch1 | ch2 | ch3 | ch4
  deriving DecidableEq, Repr

/-- One constructor per row of the opcode map (R115): READs carry no data, WRITEs the byte `d`. The table gives the
unused range two rows each way, 0xFF27 and 0xFF28 + k. -/
inductive Instr where
  | rdNr10
  | wrNr10 (d : Byte)
  | rdNr11
  | wrNr11 (d : Byte)
  | rdNr12
  | wrNr12 (d : Byte)
  | rdNr13
  | wrNr13 (d : Byte)
  | rdNr14
  | wrNr14 (d : Byte)
  | rdNr20
  | wrNr20 (d : Byte)
  | rdNr21
  | wrNr21 (d : Byte)
  | rdNr22
  | wrNr22 (d : Byte)
  | rdNr23
  | wrNr23 (d : Byte)
  | rdNr24
  | wrNr24 (d : Byte)
  | rdNr30
  | wrNr30 (d : Byte)
  | rdNr31
  | wrNr31 (d : Byte)
  | rdNr32
  | wrNr32 (d : Byte)
  | rdNr33
  | wrNr33 (d : Byte)
  | rdNr34
  | wrNr34 (d : Byte)
  | rdNr40
  | wrNr40 (d : Byte)
  | rdNr41
  | wrNr41 (d : Byte)
  | rdNr42
  | wrNr42 (d : Byte)
  | rdNr43
  | wrNr43 (d : Byte)
  | rdNr44
  | wrNr44 (d : Byte)
  | rdNr50
  | wrNr50 (d : Byte)
  | rdNr51
  | wrNr51 (d : Byte)
  | rdNr52
  | wrNr52 (d : Byte)
  | rdUnused27
  | rdUnused28 (k : BitVec 3)
  | wrUnused27 (d : Byte)
  | wrUnused28 (k : BitVec 3) (d : Byte)
  | rdWave (k : BitVec 4)
  | wrWave (k : BitVec 4) (d : Byte)
  | rdNoData (a : Addr)
  | wrNoData (a : Addr) (d : Byte)
  | cycle
  deriving DecidableEq, Repr

end Sys2Proof
end

