-- ==== Sys2Proof/WellFormed.lean ====
section
/-! DEFINITION. Which instructions are well formed: the operand widths leave one check, the address of the two
fallback rows. -/

namespace Sys2Proof

/-- The 48 addresses the APU claims (R80). -/
def claimed (a : Addr) : Bool := 0xFF10 ≤ a.toNat && a.toNat ≤ 0xFF3F

/-- The fallback rows stand for the addresses no other row takes (R115); every other operand is legal (R118). -/
def Instr.wellFormed : Instr → Bool
  | .rdNr10 => true
  | .wrNr10 _ => true
  | .rdNr11 => true
  | .wrNr11 _ => true
  | .rdNr12 => true
  | .wrNr12 _ => true
  | .rdNr13 => true
  | .wrNr13 _ => true
  | .rdNr14 => true
  | .wrNr14 _ => true
  | .rdNr20 => true
  | .wrNr20 _ => true
  | .rdNr21 => true
  | .wrNr21 _ => true
  | .rdNr22 => true
  | .wrNr22 _ => true
  | .rdNr23 => true
  | .wrNr23 _ => true
  | .rdNr24 => true
  | .wrNr24 _ => true
  | .rdNr30 => true
  | .wrNr30 _ => true
  | .rdNr31 => true
  | .wrNr31 _ => true
  | .rdNr32 => true
  | .wrNr32 _ => true
  | .rdNr33 => true
  | .wrNr33 _ => true
  | .rdNr34 => true
  | .wrNr34 _ => true
  | .rdNr40 => true
  | .wrNr40 _ => true
  | .rdNr41 => true
  | .wrNr41 _ => true
  | .rdNr42 => true
  | .wrNr42 _ => true
  | .rdNr43 => true
  | .wrNr43 _ => true
  | .rdNr44 => true
  | .wrNr44 _ => true
  | .rdNr50 => true
  | .wrNr50 _ => true
  | .rdNr51 => true
  | .wrNr51 _ => true
  | .rdNr52 => true
  | .wrNr52 _ => true
  | .rdUnused27 => true
  | .rdUnused28 _ => true
  | .wrUnused27 _ => true
  | .wrUnused28 _ _ => true
  | .rdWave _ => true
  | .wrWave _ _ => true
  | .rdNoData a => !claimed a
  | .wrNoData a _ => !claimed a
  | .cycle => true

end Sys2Proof
end

