-- ==== Sys2Proof/Decode.lean ====
section
/-! DEFINITION. The decoder and the encoder of stimulus words (30_encoding.md). -/

namespace Sys2Proof

/-- Why a word is no stimulus: the three kinds of reserved word of R113. -/
inductive Reject where
  | reservedOp
  | readWithData
  | cycleWithOperand
  deriving DecidableEq, Repr

/-- Bits 25-24 (R110). -/
def opField (w : StimulusWord) : BitVec 2 := w.extractLsb' 24 2

/-- Bits 23-8, used as they are (R110, R111). -/
def addrField (w : StimulusWord) : Addr := w.extractLsb' 8 16

/-- Bits 7-0, used as they are (R110, R111). -/
def dataField (w : StimulusWord) : Byte := w.extractLsb' 0 8

/-- The word with the three fields of R110. -/
def packWord (op : BitVec 2) (a : Addr) (d : Byte) : StimulusWord := op ++ a ++ d

/-- The bus address of a register (R80). -/
def regAddr : Reg → Addr
  | .nr10 => 0xFF10
  | .nr11 => 0xFF11
  | .nr12 => 0xFF12
  | .nr13 => 0xFF13
  | .nr14 => 0xFF14
  | .nr20 => 0xFF15
  | .nr21 => 0xFF16
  | .nr22 => 0xFF17
  | .nr23 => 0xFF18
  | .nr24 => 0xFF19
  | .nr30 => 0xFF1A
  | .nr31 => 0xFF1B
  | .nr32 => 0xFF1C
  | .nr33 => 0xFF1D
  | .nr34 => 0xFF1E
  | .nr40 => 0xFF1F
  | .nr41 => 0xFF20
  | .nr42 => 0xFF21
  | .nr43 => 0xFF22
  | .nr44 => 0xFF23
  | .nr50 => 0xFF24
  | .nr51 => 0xFF25
  | .nr52 => 0xFF26

/-- The register at a bus address, if there is one (R80). -/
def regOfAddr (a : Addr) : Option Reg :=
  match a.toNat with
  | 0xFF10 => some .nr10
  | 0xFF11 => some .nr11
  | 0xFF12 => some .nr12
  | 0xFF13 => some .nr13
  | 0xFF14 => some .nr14
  | 0xFF15 => some .nr20
  | 0xFF16 => some .nr21
  | 0xFF17 => some .nr22
  | 0xFF18 => some .nr23
  | 0xFF19 => some .nr24
  | 0xFF1A => some .nr30
  | 0xFF1B => some .nr31
  | 0xFF1C => some .nr32
  | 0xFF1D => some .nr33
  | 0xFF1E => some .nr34
  | 0xFF1F => some .nr40
  | 0xFF20 => some .nr41
  | 0xFF21 => some .nr42
  | 0xFF22 => some .nr43
  | 0xFF23 => some .nr44
  | 0xFF24 => some .nr50
  | 0xFF25 => some .nr51
  | 0xFF26 => some .nr52
  | _ => none

/-- The READ row of a register (R115). -/
def readOfReg : Reg → Instr
  | .nr10 => .rdNr10
  | .nr11 => .rdNr11
  | .nr12 => .rdNr12
  | .nr13 => .rdNr13
  | .nr14 => .rdNr14
  | .nr20 => .rdNr20
  | .nr21 => .rdNr21
  | .nr22 => .rdNr22
  | .nr23 => .rdNr23
  | .nr24 => .rdNr24
  | .nr30 => .rdNr30
  | .nr31 => .rdNr31
  | .nr32 => .rdNr32
  | .nr33 => .rdNr33
  | .nr34 => .rdNr34
  | .nr40 => .rdNr40
  | .nr41 => .rdNr41
  | .nr42 => .rdNr42
  | .nr43 => .rdNr43
  | .nr44 => .rdNr44
  | .nr50 => .rdNr50
  | .nr51 => .rdNr51
  | .nr52 => .rdNr52

/-- The WRITE row of a register (R115). -/
def writeOfReg (d : Byte) : Reg → Instr
  | .nr10 => .wrNr10 d
  | .nr11 => .wrNr11 d
  | .nr12 => .wrNr12 d
  | .nr13 => .wrNr13 d
  | .nr14 => .wrNr14 d
  | .nr20 => .wrNr20 d
  | .nr21 => .wrNr21 d
  | .nr22 => .wrNr22 d
  | .nr23 => .wrNr23 d
  | .nr24 => .wrNr24 d
  | .nr30 => .wrNr30 d
  | .nr31 => .wrNr31 d
  | .nr32 => .wrNr32 d
  | .nr33 => .wrNr33 d
  | .nr34 => .wrNr34 d
  | .nr40 => .wrNr40 d
  | .nr41 => .wrNr41 d
  | .nr42 => .wrNr42 d
  | .nr43 => .wrNr43 d
  | .nr44 => .wrNr44 d
  | .nr50 => .wrNr50 d
  | .nr51 => .wrNr51 d
  | .nr52 => .wrNr52 d

/-- The row of READ(a) (R112, R115). The unused range's second row and the wave table's row are matched by their
masks: address bits 15-3 and 15-4. -/
def decodeRead (a : Addr) : Instr :=
  match regOfAddr a with
  | some r => readOfReg r
  | none =>
    if a = 0xFF27 then .rdUnused27
    else if a.extractLsb' 3 13 = 0x1FE5 then .rdUnused28 (a.extractLsb' 0 3)
    else if a.extractLsb' 4 12 = 0xFF3 then .rdWave (a.extractLsb' 0 4)
    else .rdNoData a

/-- The row of WRITE(a, d) (R112, R115). -/
def decodeWrite (a : Addr) (d : Byte) : Instr :=
  match regOfAddr a with
  | some r => writeOfReg d r
  | none =>
    if a = 0xFF27 then .wrUnused27 d
    else if a.extractLsb' 3 13 = 0x1FE5 then .wrUnused28 (a.extractLsb' 0 3) d
    else if a.extractLsb' 4 12 = 0xFF3 then .wrWave (a.extractLsb' 0 4) d
    else .wrNoData a d

/-- The decoder, total on 26-bit words: a row of R115 or a reserved word of R113, by name. -/
def decode (w : StimulusWord) : Except Reject Instr :=
  match (opField w).toNat with
  | 0 => if dataField w = 0 then .ok (decodeRead (addrField w)) else .error .readWithData
  | 1 => .ok (decodeWrite (addrField w) (dataField w))
  | 2 => if addrField w = 0 ∧ dataField w = 0 then .ok .cycle else .error .cycleWithOperand
  | _ => .error .reservedOp

/-- The word of an instruction, from the opcode map (R115, R116). -/
def encode : Instr → StimulusWord
  | .rdNr10 => packWord 0 0xFF10 0
  | .wrNr10 d => packWord 1 0xFF10 d
  | .rdNr11 => packWord 0 0xFF11 0
  | .wrNr11 d => packWord 1 0xFF11 d
  | .rdNr12 => packWord 0 0xFF12 0
  | .wrNr12 d => packWord 1 0xFF12 d
  | .rdNr13 => packWord 0 0xFF13 0
  | .wrNr13 d => packWord 1 0xFF13 d
  | .rdNr14 => packWord 0 0xFF14 0
  | .wrNr14 d => packWord 1 0xFF14 d
  | .rdNr20 => packWord 0 0xFF15 0
  | .wrNr20 d => packWord 1 0xFF15 d
  | .rdNr21 => packWord 0 0xFF16 0
  | .wrNr21 d => packWord 1 0xFF16 d
  | .rdNr22 => packWord 0 0xFF17 0
  | .wrNr22 d => packWord 1 0xFF17 d
  | .rdNr23 => packWord 0 0xFF18 0
  | .wrNr23 d => packWord 1 0xFF18 d
  | .rdNr24 => packWord 0 0xFF19 0
  | .wrNr24 d => packWord 1 0xFF19 d
  | .rdNr30 => packWord 0 0xFF1A 0
  | .wrNr30 d => packWord 1 0xFF1A d
  | .rdNr31 => packWord 0 0xFF1B 0
  | .wrNr31 d => packWord 1 0xFF1B d
  | .rdNr32 => packWord 0 0xFF1C 0
  | .wrNr32 d => packWord 1 0xFF1C d
  | .rdNr33 => packWord 0 0xFF1D 0
  | .wrNr33 d => packWord 1 0xFF1D d
  | .rdNr34 => packWord 0 0xFF1E 0
  | .wrNr34 d => packWord 1 0xFF1E d
  | .rdNr40 => packWord 0 0xFF1F 0
  | .wrNr40 d => packWord 1 0xFF1F d
  | .rdNr41 => packWord 0 0xFF20 0
  | .wrNr41 d => packWord 1 0xFF20 d
  | .rdNr42 => packWord 0 0xFF21 0
  | .wrNr42 d => packWord 1 0xFF21 d
  | .rdNr43 => packWord 0 0xFF22 0
  | .wrNr43 d => packWord 1 0xFF22 d
  | .rdNr44 => packWord 0 0xFF23 0
  | .wrNr44 d => packWord 1 0xFF23 d
  | .rdNr50 => packWord 0 0xFF24 0
  | .wrNr50 d => packWord 1 0xFF24 d
  | .rdNr51 => packWord 0 0xFF25 0
  | .wrNr51 d => packWord 1 0xFF25 d
  | .rdNr52 => packWord 0 0xFF26 0
  | .wrNr52 d => packWord 1 0xFF26 d
  | .rdUnused27 => packWord 0 0xFF27 0
  | .rdUnused28 k => packWord 0 (0x1FE5#13 ++ k) 0
  | .wrUnused27 d => packWord 1 0xFF27 d
  | .wrUnused28 k d => packWord 1 (0x1FE5#13 ++ k) d
  | .rdWave k => packWord 0 (0xFF3#12 ++ k) 0
  | .wrWave k d => packWord 1 (0xFF3#12 ++ k) d
  | .rdNoData a => packWord 0 a 0
  | .wrNoData a d => packWord 1 a d
  | .cycle => packWord 2 0 0

/-- The stimulus word of an opcode-table row's bits. A word is one unit of 26 bits here (R110, R114), so it is given to
the decoder as it is; bits above the row's `nbits` are 0, and a value of more than 26 bits is no stimulus word. -/
def wordOfTableBits (nbits w : Nat) : Option StimulusWord :=
  let v := w % (1 <<< nbits)
  if v < 0x4000000 then some (BitVec.ofNat 26 v) else none

/-- What the decoder reads from an opcode-table row's bits; none where it refuses. -/
def decodeTableWord (nbits w : Nat) : Option Instr :=
  match wordOfTableBits nbits w with
  | none => none
  | some v =>
    match decode v with
    | .ok i => some i
    | .error _ => none

end Sys2Proof
end

