-- ==== Sys2Proof/Machine/Params.lean ====
section
/-! DEFINITION. What follows from the parameters of R8: the reload values, the duty patterns, and which
configurations the model takes; and the parameters of `State.reset`. -/

namespace Sys2Proof.Machine
open Sys2Proof

/-- The values R8 decides, and for its three OPEN parameters the values of log 3. DESIGN CHOICE (log 3), unsafe:
`sampleRateHz` is the value of R8's examples, `bufferCapacity` that of 95_test_vectors.md's programs,
`waveAccessWindow` is 0; the spec fixes none of the three. -/
def standardConfig : Config where
  masterClockHz    := 4194304
  sampleRateHz     := 44100
  bufferCapacity   := 4
  sampleMax        := 0xFF
  duty0            := 0x80
  duty1            := 0x81
  duty2            := 0xE1
  duty3            := 0x7E
  waveRamAccess    := .direct
  waveAccessWindow := 0
  waveBusyValue    := 0xFF

/-- `SEQ_RELOAD = floor(MASTER_CLOCK_HZ / 512)` (R422). -/
def seqReload (c : Config) : Nat := c.masterClockHz / 512

/-- `SAMPLE_RELOAD = floor(MASTER_CLOCK_HZ / SAMPLE_RATE_HZ)` (R429). -/
def sampleReload (c : Config) : Nat := c.masterClockHz / c.sampleRateHz

/-- `DUTY_TABLE[d]` (R273). -/
def dutyPattern (c : Config) (d : BitVec 2) : Byte :=
  match d.toNat with
  | 0 => c.duty0
  | 1 => c.duty1
  | 2 => c.duty2
  | _ => c.duty3

/-- `duty_bit(d, p) = (DUTY_TABLE[d] >> p) & 1` (R273). -/
def dutyBit (c : Config) (d : BitVec 2) (p : Nat) : Bool := (dutyPattern c d).getLsbD p

/-- The conditions of R8 on the parameters: `SAMPLE_RELOAD >= 1`, and `BUFFER_CAPACITY` even and at least 2. That
`SEQ_RELOAD` is at least 1 is DEDUCED (log 4) from R424, whose counter runs in 1..reload; safe. -/
def configValid (c : Config) : Bool :=
  1 ≤ seqReload c && 1 ≤ sampleReload c && c.bufferCapacity % 2 == 0 && 2 ≤ c.bufferCapacity

end Sys2Proof.Machine
end

