-- ==== Sys2Proof/Machine/State.lean ====
section
/-! DEFINITION. The state of the APU (10_state.md), the reasons it can stop, and the state after reset (R66). -/

namespace Sys2Proof.Machine
open Sys2Proof

/-- The contract violations of R501. No step answers with one: a violation is recorded in `State.fault`, and from then
on every stimulus leaves the state unchanged (R500). -/
inductive Fault where
  /-- A READ or WRITE above 0xFFFF. Raised by the raw bus calls `apiRead` and `apiWrite`, never by a decoded word
  (R111). Safe: the machine stops taking steps as R500 says. -/
  | addressOutOfRange (a : Nat)
  /-- `tick` with a step outside 0..7 (R213). Raised by `tickChannel`, which CYCLE and the raw call `apiTick` use; CYCLE
  reaches it only from a state whose `seqStep` is above 7, which no run reaches (R423). Safe, for the same reason. -/
  | tickStepOutOfRange (step : Nat)
  deriving DecidableEq, Repr

/-- Why a step is refused. -/
inductive Refusal where
  /-- An instruction without a meaning. No arm of `exec` raises it. Safe. -/
  | notModelled (mnemonic : String)
  /-- A reserved stimulus word (R113). Raised by `step`; no state changes. Safe: R113 asks for the refusal. -/
  | reservedWord (w : StimulusWord) (why : Reject)
  /-- A configuration outside the conditions of R8. Raised by `step` (93_implementation_defined.md part 1, items 6 and
  7; log 4). Safe: nothing is claimed of such a machine. -/
  | badConfiguration
  deriving DecidableEq, Repr

/-- The answer of a READ: a byte, or `NoData` (R141). -/
inductive Answer where
  | byte (b : Byte)
  | noData
  deriving DecidableEq, Repr

/-- The wave table as cells (address, byte), addresses rising, no byte 0: an unlisted address reads 0, the reset
contents of R66. The operations and the canonical form are in Machine/Ops.lean. -/
abbrev Memory := List Host.Cell

/-- The register file: one byte for each register of R21. -/
structure RegFile where
  nr10 : Byte
  nr11 : Byte
  nr12 : Byte
  nr13 : Byte
  nr14 : Byte
  nr20 : Byte
  nr21 : Byte
  nr22 : Byte
  nr23 : Byte
  nr24 : Byte
  nr30 : Byte
  nr31 : Byte
  nr32 : Byte
  nr33 : Byte
  nr34 : Byte
  nr40 : Byte
  nr41 : Byte
  nr42 : Byte
  nr43 : Byte
  nr44 : Byte
  nr50 : Byte
  nr51 : Byte
  nr52 : Byte
  deriving DecidableEq, Repr

/-- What every channel holds (R25, R26, R27, R28). -/
structure Chan where
  enabled : Bool
  length  : Nat
  timer   : Nat
  amp     : Nat
  deriving DecidableEq, Repr

/-- The volume envelope of channels 1, 2 and 4 (R30). -/
structure Envelope where
  vol       : Nat
  envTimer  : Nat
  envActive : Bool
  deriving DecidableEq, Repr

/-- The frequency sweep of channel 1 (R31). -/
structure Sweep where
  shadow       : Nat
  sweepTimer   : Nat
  sweepEnabled : Bool
  overflow     : Bool
  deriving DecidableEq, Repr

/-- Channel 1, Pulse-with-Sweep (R25 to R31). -/
structure Ch1 extends Chan, Envelope, Sweep where
  phase : Nat
  deriving DecidableEq, Repr

/-- Channel 2, Pulse (R25 to R30). -/
structure Ch2 extends Chan, Envelope where
  phase : Nat
  deriving DecidableEq, Repr

/-- Channel 3, Wave (R25 to R28, R32). -/
structure Ch3 extends Chan where
  wave      : Memory
  pos       : Nat
  accessAge : Nat
  deriving DecidableEq, Repr

/-- Channel 4, Noise (R25 to R28, R30, R33). -/
structure Ch4 extends Chan, Envelope where
  lfsr : BitVec 15
  deriving DecidableEq, Repr

/-- The Sound Controller (R34). `out` is the ordered record of the buffers handed to the sink. -/
structure Controller where
  seqStep     : Nat
  seqCount    : Nat
  sampleCount : Nat
  buffer      : List Byte
  out         : List (List Byte)
  deriving DecidableEq, Repr

/-- The whole machine. `regs` to `fault` are the state of R20. The other three are the model's own: `config` holds the
parameters of R8, which no step writes (log 3); `pending` holds the host's stimulus words not yet applied, oldest first
(R95, R513; log 1); `answers` holds the answers of the READs, oldest first (R516; log 2). -/
structure State where
  config  : Config
  regs    : RegFile
  ch1     : Ch1
  ch2     : Ch2
  ch3     : Ch3
  ch4     : Ch4
  ctl     : Controller
  fault   : Option Fault
  pending : List StimulusWord
  answers : List Answer
  deriving DecidableEq, Repr

/-- The register file at reset: every register 0x00 (R66). -/
def RegFile.reset : RegFile where
  nr10 := 0
  nr11 := 0
  nr12 := 0
  nr13 := 0
  nr14 := 0
  nr20 := 0
  nr21 := 0
  nr22 := 0
  nr23 := 0
  nr24 := 0
  nr30 := 0
  nr31 := 0
  nr32 := 0
  nr33 := 0
  nr34 := 0
  nr40 := 0
  nr41 := 0
  nr42 := 0
  nr43 := 0
  nr44 := 0
  nr50 := 0
  nr51 := 0
  nr52 := 0

def Chan.reset : Chan where
  enabled := false
  length  := 0
  timer   := 0
  amp     := 0

def Envelope.reset : Envelope where
  vol       := 0
  envTimer  := 0
  envActive := false

def Sweep.reset : Sweep where
  shadow       := 0
  sweepTimer   := 0
  sweepEnabled := false
  overflow     := false

/-- The state after reset of an APU whose host fixed the parameters `c`: the table of R66. -/
def State.resetWith (c : Config) : State where
  config  := c
  regs    := RegFile.reset
  ch1     := { toChan := Chan.reset, toEnvelope := Envelope.reset, toSweep := Sweep.reset, phase := 0 }
  ch2     := { toChan := Chan.reset, toEnvelope := Envelope.reset, phase := 0 }
  ch3     := { toChan := Chan.reset, wave := [], pos := 0, accessAge := c.waveAccessWindow }
  ch4     := { toChan := Chan.reset, toEnvelope := Envelope.reset, lfsr := 0x7FFF }
  ctl     := { seqStep := 0, seqCount := seqReload c, sampleCount := sampleReload c, buffer := [], out := [] }
  fault   := none
  pending := []
  answers := []

/-- The machine right after reset, with the parameters of `standardConfig` (log 3). -/
def State.reset : State := State.resetWith standardConfig

end Sys2Proof.Machine
end

