-- ==== Sys2Proof/Machine/Ops.lean ====
section
/-! DEFINITION. The named operations over the wave table, the register file, the fault mark and the observation. -/

namespace Sys2Proof.Machine
open Sys2Proof

/-- The byte at an address of the wave table; an unlisted address reads 0, the reset contents (R66). -/
def memRead : Memory → Nat → Byte
  | [], _ => 0
  | (b, v) :: m, a => if b = a then v else memRead m a

/-- Storing a byte at an address, keeping the canonical form: addresses rise, and storing 0 removes the cell. -/
def memWrite : Memory → Nat → Byte → Memory
  | [], a, v => if v = 0 then [] else [(a, v)]
  | (b, u) :: m, a, v =>
    if a < b then (if v = 0 then (b, u) :: m else (a, v) :: (b, u) :: m)
    else if a = b then (if v = 0 then m else (a, v) :: m)
    else (b, u) :: memWrite m a v

/-- Addresses from `lo` up, rising, none above 0xFF3F, no byte 0. -/
def risingFrom (lo : Nat) : Memory → Bool
  | [] => true
  | (b, v) :: m => lo ≤ b && b ≤ 0xFF3F && v != 0 && risingFrom (b + 1) m

/-- The canonical form of the wave table: cells of 0xFF30 to 0xFF3F (R64), addresses rising, none holding 0. -/
def Memory.wf (m : Memory) : Bool := risingFrom 0xFF30 m

/-- The address of wave byte `k` (R64). -/
def waveAddr (k : Nat) : Nat := 0xFF30 + k

/-- `ch3.wave[k]` (R32). -/
def waveByte (k : Nat) (c : Ch3) : Byte := memRead c.wave (waveAddr k)

/-- `ch3.wave[k] <- v` (R32). -/
def storeWave (k : Nat) (v : Byte) (c : Ch3) : Ch3 := { c with wave := memWrite c.wave (waveAddr k) v }

/-- `get(register)` of R22. -/
def regGet (f : RegFile) : Reg → Byte
  | .nr10 => f.nr10
  | .nr11 => f.nr11
  | .nr12 => f.nr12
  | .nr13 => f.nr13
  | .nr14 => f.nr14
  | .nr20 => f.nr20
  | .nr21 => f.nr21
  | .nr22 => f.nr22
  | .nr23 => f.nr23
  | .nr24 => f.nr24
  | .nr30 => f.nr30
  | .nr31 => f.nr31
  | .nr32 => f.nr32
  | .nr33 => f.nr33
  | .nr34 => f.nr34
  | .nr40 => f.nr40
  | .nr41 => f.nr41
  | .nr42 => f.nr42
  | .nr43 => f.nr43
  | .nr44 => f.nr44
  | .nr50 => f.nr50
  | .nr51 => f.nr51
  | .nr52 => f.nr52

/-- `set(register, byte)` of R22: storage only, all eight bits. -/
def regSet (f : RegFile) (d : Byte) : Reg → RegFile
  | .nr10 => { f with nr10 := d }
  | .nr11 => { f with nr11 := d }
  | .nr12 => { f with nr12 := d }
  | .nr13 => { f with nr13 := d }
  | .nr14 => { f with nr14 := d }
  | .nr20 => { f with nr20 := d }
  | .nr21 => { f with nr21 := d }
  | .nr22 => { f with nr22 := d }
  | .nr23 => { f with nr23 := d }
  | .nr24 => { f with nr24 := d }
  | .nr30 => { f with nr30 := d }
  | .nr31 => { f with nr31 := d }
  | .nr32 => { f with nr32 := d }
  | .nr33 => { f with nr33 := d }
  | .nr34 => { f with nr34 := d }
  | .nr40 => { f with nr40 := d }
  | .nr41 => { f with nr41 := d }
  | .nr42 => { f with nr42 := d }
  | .nr43 => { f with nr43 := d }
  | .nr44 => { f with nr44 := d }
  | .nr50 => { f with nr50 := d }
  | .nr51 => { f with nr51 := d }
  | .nr52 => { f with nr52 := d }

/-- A contract violation: the one operation that sets the fault mark (R500). There is no way back (R506). -/
def raiseFault (r : Fault) (s : State) : State := { s with fault := some r }

/-- A READ's answer, kept in the observation of the run (R516; log 2). -/
def giveAnswer (a : Answer) (s : State) : State := { s with answers := s.answers ++ [a] }

/-- `reg[A] <- D` of a WRITE (R145). -/
def storeReg (r : Reg) (d : Byte) (s : State) : State := { s with regs := regSet s.regs d r }

/-- What every call on the APU does before anything else: once the fault mark is set, it leaves the state unchanged and
answers nothing (R500). -/
def unlessFaulted (f : State → State) (s : State) : State := if s.fault.isSome then s else f s

/-- A stimulus: one effect on the whole APU, done before the next stimulus begins (R13, R506). It always completes. -/
def stimulus (f : State → State) (s : State) : Host.Outcome State Fault Refusal := .next (unlessFaulted f s)

end Sys2Proof.Machine
end

