-- ==== Sys2Proof/Machine/Operands.lean ====
section
/-! DEFINITION. The fields of the registers (R41 to R63), the read-back masks (R144), and what a READ answers. -/

namespace Sys2Proof.Machine
open Sys2Proof

/-- READ_MASK, one byte per register (R144). NR52 has its own read rule too (R150). -/
def readMask : Reg → Byte
  | .nr10 => 0x80
  | .nr11 => 0x3F
  | .nr12 => 0x00
  | .nr13 => 0xFF
  | .nr14 => 0xBF
  | .nr20 => 0xFF
  | .nr21 => 0x3F
  | .nr22 => 0x00
  | .nr23 => 0xFF
  | .nr24 => 0xBF
  | .nr30 => 0x7F
  | .nr31 => 0xFF
  | .nr32 => 0x9F
  | .nr33 => 0xFF
  | .nr34 => 0xBF
  | .nr40 => 0xFF
  | .nr41 => 0xFF
  | .nr42 => 0x00
  | .nr43 => 0x00
  | .nr44 => 0xBF
  | .nr50 => 0x00
  | .nr51 => 0x00
  | .nr52 => 0x70

/-- A READ of a register in 0xFF10 to 0xFF25 answers `reg[A] | READ_MASK[A]` (R143). -/
def answerReg (r : Reg) (s : State) : State := giveAnswer (.byte (regGet s.regs r ||| readMask r)) s

/-- The sweep period P of NR10, bits 6-4 (R41). -/
def sweepPeriod (nr10 : Byte) : Nat := (nr10.extractLsb' 4 3).toNat

/-- The negate bit N of NR10, bit 3 (R41). -/
def sweepNegate (nr10 : Byte) : Bool := nr10.getLsbD 3

/-- The shift S of NR10, bits 2-0 (R41). -/
def sweepShift (nr10 : Byte) : Nat := (nr10.extractLsb' 0 3).toNat

/-- The duty select of NR11 and NR21, bits 7-6 (R42, R47). -/
def dutySelect (nrx1 : Byte) : BitVec 2 := nrx1.extractLsb' 6 2

/-- The length load of NR11, NR21 and NR41, bits 5-0 (R42, R47, R57). -/
def lengthLoad6 (nrx1 : Byte) : Nat := (nrx1.extractLsb' 0 6).toNat

/-- The initial volume of NR12, NR22 and NR42, bits 7-4 (R43, R48, R58). -/
def envVolume (nrx2 : Byte) : Nat := (nrx2.extractLsb' 4 4).toNat

/-- The envelope direction of NRx2, bit 3, 1 = increase (R43). -/
def envIncrease (nrx2 : Byte) : Bool := nrx2.getLsbD 3

/-- The envelope period of NRx2, bits 2-0 (R43). -/
def envPeriod (nrx2 : Byte) : Nat := (nrx2.extractLsb' 0 3).toNat

/-- The trigger bit of NRx4, bit 7 (R45, R50, R55, R60). -/
def triggerBit (nrx4 : Byte) : Bool := nrx4.getLsbD 7

/-- The length enable of NRx4, bit 6 (R45, R50, R55, R60). -/
def lengthEnable (nrx4 : Byte) : Bool := nrx4.getLsbD 6

/-- The 11-bit frequency `NRx4[2:0] : NRx3[7:0]` (R208). -/
def frequency (nrx3 nrx4 : Byte) : Nat := (nrx4.extractLsb' 0 3).toNat * 256 + nrx3.toNat

/-- `f_1`, read from the register file at each use (R208). -/
def freq1 (f : RegFile) : Nat := frequency f.nr13 f.nr14

/-- `f_2` (R208). -/
def freq2 (f : RegFile) : Nat := frequency f.nr23 f.nr24

/-- `f_3` (R208). -/
def freq3 (f : RegFile) : Nat := frequency f.nr33 f.nr34

/-- The volume code of NR32, bits 6-5 (R53). -/
def volumeCode (nr32 : Byte) : BitVec 2 := nr32.extractLsb' 5 2

/-- The clock shift of NR43, bits 7-4 (R59). -/
def noiseShift (nr43 : Byte) : Nat := (nr43.extractLsb' 4 4).toNat

/-- The width bit of NR43, bit 3, 1 = narrow (R59). -/
def noiseNarrow (nr43 : Byte) : Bool := nr43.getLsbD 3

/-- The divisor code of NR43, bits 2-0 (R59). -/
def noiseDivisorCode (nr43 : Byte) : BitVec 3 := nr43.extractLsb' 0 3

/-- The left master volume of NR50, bits 6-4 (R61). -/
def leftVolume (nr50 : Byte) : Nat := (nr50.extractLsb' 4 3).toNat

/-- The right master volume of NR50, bits 2-0 (R61). -/
def rightVolume (nr50 : Byte) : Nat := (nr50.extractLsb' 0 3).toNat

/-- Channel N goes to the left side if bit N+3 of NR51 is 1 (R62). -/
def routedLeft (nr51 : Byte) : Channel → Bool
  | .ch1 => nr51.getLsbD 4
  | .ch2 => nr51.getLsbD 5
  | .ch3 => nr51.getLsbD 6
  | .ch4 => nr51.getLsbD 7

/-- Channel N goes to the right side if bit N-1 of NR51 is 1 (R62). -/
def routedRight (nr51 : Byte) : Channel → Bool
  | .ch1 => nr51.getLsbD 0
  | .ch2 => nr51.getLsbD 1
  | .ch3 => nr51.getLsbD 2
  | .ch4 => nr51.getLsbD 3

end Sys2Proof.Machine
end

