-- ==== Sys2Proof/Machine/Flags.lean ====
section
/-! DEFINITION. The status flags as the rules compute them: DAC predicates, `is_enabled`, `output_amplitude`, and the
status bits of NR52. -/

namespace Sys2Proof.Machine
open Sys2Proof

/-- NRx2 bits 7-3 not all 0 (R210). -/
def envelopeDac (nrx2 : Byte) : Bool := (nrx2 &&& 0xF8) != 0

/-- The DAC-enabled predicate, computed from the registers at each use (R210). -/
def dac (f : RegFile) : Channel → Bool
  | .ch1 => envelopeDac f.nr12
  | .ch2 => envelopeDac f.nr22
  | .ch3 => f.nr30.getLsbD 7
  | .ch4 => envelopeDac f.nr42

/-- The part of a channel every channel has. -/
def chanOf (s : State) : Channel → Chan
  | .ch1 => s.ch1.toChan
  | .ch2 => s.ch2.toChan
  | .ch3 => s.ch3.toChan
  | .ch4 => s.ch4.toChan

/-- `is_enabled()` (R211). -/
def isEnabled (s : State) : Channel → Bool
  | .ch1 => s.ch1.enabled && dac s.regs .ch1 && !s.ch1.overflow
  | .ch2 => s.ch2.enabled && dac s.regs .ch2
  | .ch3 => s.ch3.enabled && dac s.regs .ch3
  | .ch4 => s.ch4.enabled && dac s.regs .ch4

/-- `output_amplitude()` (R212). -/
def outputAmplitude (s : State) (c : Channel) : Nat := if isEnabled s c then (chanOf s c).amp else 0

/-- Bits 3-0 of a READ of NR52: channels 4, 3, 2, 1 (R150). -/
def statusBits (s : State) : Byte :=
  (if isEnabled s .ch4 then 8 else 0) ||| (if isEnabled s .ch3 then 4 else 0) |||
  (if isEnabled s .ch2 then 2 else 0) ||| (if isEnabled s .ch1 then 1 else 0)

/-- What a READ of NR52 answers: the power bit, the reserved bits 6-4 as 1, and the status (R150). -/
def nr52Value (s : State) : Byte := (s.regs.nr52 &&& 0x80) ||| 0x70 ||| statusBits s

end Sys2Proof.Machine
end

