-- ==== Sys2Proof/Machine/Controller.lean ====
section
/-! DEFINITION. The controller's own addresses (40_bus.md): NR50 to NR52, the unused range, and the addresses outside
the APU. -/

namespace Sys2Proof.Machine
open Sys2Proof

/-- R146. -/
def execRdNr50 (s : State) : Host.Outcome State Fault Refusal := stimulus (answerReg .nr50) s

/-- R147. -/
def execWrNr50 (d : Byte) (s : State) : Host.Outcome State Fault Refusal := stimulus (storeReg .nr50 d) s

/-- R148. -/
def execRdNr51 (s : State) : Host.Outcome State Fault Refusal := stimulus (answerReg .nr51) s

/-- R149. -/
def execWrNr51 (d : Byte) (s : State) : Host.Outcome State Fault Refusal := stimulus (storeReg .nr51 d) s

/-- R151. -/
def execWrNr52 (d : Byte) (s : State) : Host.Outcome State Fault Refusal := stimulus (storeReg .nr52 d) s

/-- R150. -/
def execRdNr52 (s : State) : Host.Outcome State Fault Refusal :=
  stimulus (fun s => giveAnswer (.byte (nr52Value s)) s) s

/-- R152, the row of 0xFF27. -/
def execRdUnused27 (s : State) : Host.Outcome State Fault Refusal := stimulus (giveAnswer (.byte 0xFF)) s

/-- R152, the row of 0xFF28 to 0xFF2F: the answer is the same at each of them. -/
def execRdUnused28 (_k : BitVec 3) (s : State) : Host.Outcome State Fault Refusal := stimulus (giveAnswer (.byte 0xFF)) s

/-- R153, the row of 0xFF27: the write is ignored. -/
def execWrUnused27 (_d : Byte) (s : State) : Host.Outcome State Fault Refusal := stimulus (fun s => s) s

/-- R153, the row of 0xFF28 to 0xFF2F. -/
def execWrUnused28 (_k : BitVec 3) (_d : Byte) (s : State) : Host.Outcome State Fault Refusal := stimulus (fun s => s) s

/-- R154. -/
def execRdNoData (_a : Addr) (s : State) : Host.Outcome State Fault Refusal := stimulus (giveAnswer .noData) s

/-- R155. -/
def execWrNoData (_a : Addr) (_d : Byte) (s : State) : Host.Outcome State Fault Refusal := stimulus (fun s => s) s

end Sys2Proof.Machine
end

