-- ==== Sys2Proof/Machine/Channel.lean ====
section
/-! DEFINITION. What the channels share (41_channel_common.md): length counter, envelope, frequency timer, trigger. -/

namespace Sys2Proof.Machine
open Sys2Proof

/-- The length clock of one channel, with NRx4 as it is at the tick (R203). Reaching 0 disables the channel (R204). -/
def lengthClock (nrx4 : Byte) (c : Chan) : Chan :=
  if lengthEnable nrx4 && 0 < c.length then
    { c with length := c.length - 1, enabled := if c.length - 1 = 0 then false else c.enabled }
  else c

/-- The volume one step up or down, held at 15 and at 0 (R205). -/
def movedVol (increase : Bool) (vol : Nat) : Nat := if increase then (if vol < 15 then vol + 1 else vol) else vol - 1

/-- One step of the volume at an envelope expiry, and the freeze at 15 or 0 (R205, R206). -/
def envelopeMove (increase : Bool) (e : Envelope) : Envelope :=
  { e with
    vol := movedVol increase e.vol
    envActive := if movedVol increase e.vol = (if increase then 15 else 0) then false else e.envActive }

/-- The envelope clock, with NRx2 as it is at the clock (R205). The timer's decrement saturates at 0. -/
def envelopeClock (nrx2 : Byte) (e : Envelope) : Envelope :=
  if envPeriod nrx2 = 0 then e
  else if e.envTimer - 1 = 0 then
    (if e.envActive then envelopeMove (envIncrease nrx2) { e with envTimer := envPeriod nrx2 }
     else { e with envTimer := envPeriod nrx2 })
  else { e with envTimer := e.envTimer - 1 }

/-- The envelope reload at a trigger (R217). -/
def envelopeReload (nrx2 : Byte) : Envelope where
  vol       := envVolume nrx2
  envTimer  := if envPeriod nrx2 = 0 then 8 else envPeriod nrx2
  envActive := true

/-- The frequency timer's decrement, saturating at 0, reaches 0: the timer expires in this cycle (R207). -/
def timerExpires (t : Nat) : Bool := t - 1 == 0

/-- The part of `trigger()` every channel has, in R215's order: enabled, length, timer, amplitude; and its last line,
which forces `enabled` off when the DAC is off. No line between reads `enabled`, so the two are written together. -/
def chanTrigger (maxLength reload : Nat) (dacOn : Bool) (c : Chan) : Chan where
  enabled := dacOn
  length  := if c.length = 0 then maxLength else c.length
  timer   := reload
  amp     := 0

/-- A WRITE to NRx4 triggers if bit 7 of the byte is 1 (R216). -/
def whenTriggerBit (d : Byte) (trigger : State → State) (s : State) : State :=
  if triggerBit d then trigger s else s

end Sys2Proof.Machine
end

