-- ==== Sys2Proof/Machine/Noise.lean ====
section
/-! DEFINITION. Noise channel 4 (45_noise.md): the LFSR, trigger, and the meanings of NR40 to NR44. -/

namespace Sys2Proof.Machine
open Sys2Proof

/-- NOISE_DIVISOR (R391). -/
def noiseDivisor (code : BitVec 3) : Nat :=
  match code.toNat with
  | 0 => 8
  | 1 => 16
  | 2 => 32
  | 3 => 48
  | 4 => 64
  | 5 => 80
  | 6 => 96
  | _ => 112

/-- `reload_4()`, for every shift 0 to 15 (R391). -/
def noiseReload (nr43 : Byte) : Nat := noiseDivisor (noiseDivisorCode nr43) <<< noiseShift nr43

/-- The feedback bit: bit 0 XOR bit 1 (R392). -/
def lfsrFeedback (x : BitVec 15) : Bool := x.getLsbD 0 ^^ x.getLsbD 1

/-- The LFSR after one shift, in narrow or wide mode (R392). -/
def lfsrNext (narrow : Bool) (x : BitVec 15) : BitVec 15 :=
  let y := (x >>> 1) ||| (if lfsrFeedback x then 0x4000 else 0)
  if narrow then (y &&& ~~~0x40) ||| (if lfsrFeedback x then 0x40 else 0) else y

/-- The volume while LFSR bit 0 is 0, else 0 (R393). -/
def noiseAmp (x : BitVec 15) (vol : Nat) : Nat := if x.getLsbD 0 then 0 else vol

/-- Channel 4 after a `step()`: the timer, and at its expiry the advance of R392 (R207). -/
def stepped4 (f : RegFile) (c : Ch4) : Ch4 :=
  if timerExpires c.timer then
    { c with
      timer := noiseReload f.nr43
      lfsr := lfsrNext (noiseNarrow f.nr43) c.lfsr
      amp := noiseAmp (lfsrNext (noiseNarrow f.nr43) c.lfsr) c.vol }
  else { c with timer := c.timer - 1 }

/-- `step()` of channel 4. -/
def stepCh4 (s : State) : State := { s with ch4 := stepped4 s.regs s.ch4 }

/-- The length clock of channel 4 (R203). -/
def lengthTick4 (s : State) : State :=
  { s with ch4 := { s.ch4 with toChan := lengthClock s.regs.nr44 s.ch4.toChan } }

/-- The envelope clock of channel 4 (R205). -/
def envelopeTick4 (s : State) : State :=
  { s with ch4 := { s.ch4 with toEnvelope := envelopeClock s.regs.nr42 s.ch4.toEnvelope } }

/-- The length load of a WRITE to NR41: `64 - NR41[5:0]` (R202). -/
def loadLengthCh4 (s : State) : State := { s with ch4 := { s.ch4 with length := 64 - lengthLoad6 s.regs.nr41 } }

/-- `trigger()` of channel 4 (R215, R217, R394). -/
def triggerCh4 (s : State) : State :=
  { s with ch4 :=
    { toChan := chanTrigger 64 (noiseReload s.regs.nr43) (dac s.regs .ch4) s.ch4.toChan
      toEnvelope := envelopeReload s.regs.nr42
      lfsr := 0x7FFF } }

/-- R381. -/
def execRdNr40 (s : State) : Host.Outcome State Fault Refusal := stimulus (answerReg .nr40) s

/-- R382. -/
def execWrNr40 (d : Byte) (s : State) : Host.Outcome State Fault Refusal := stimulus (storeReg .nr40 d) s

/-- R383. -/
def execRdNr41 (s : State) : Host.Outcome State Fault Refusal := stimulus (answerReg .nr41) s

/-- R384, R202. -/
def execWrNr41 (d : Byte) (s : State) : Host.Outcome State Fault Refusal :=
  stimulus (fun s => loadLengthCh4 (storeReg .nr41 d s)) s

/-- R385. -/
def execRdNr42 (s : State) : Host.Outcome State Fault Refusal := stimulus (answerReg .nr42) s

/-- R386. -/
def execWrNr42 (d : Byte) (s : State) : Host.Outcome State Fault Refusal := stimulus (storeReg .nr42 d) s

/-- R387. -/
def execRdNr43 (s : State) : Host.Outcome State Fault Refusal := stimulus (answerReg .nr43) s

/-- R388. -/
def execWrNr43 (d : Byte) (s : State) : Host.Outcome State Fault Refusal := stimulus (storeReg .nr43 d) s

/-- R389. -/
def execRdNr44 (s : State) : Host.Outcome State Fault Refusal := stimulus (answerReg .nr44) s

/-- R390, R216. -/
def execWrNr44 (d : Byte) (s : State) : Host.Outcome State Fault Refusal :=
  stimulus (fun s => whenTriggerBit d triggerCh4 (storeReg .nr44 d s)) s

end Sys2Proof.Machine
end

