-- ==== Sys2Proof/Machine/Sweep.lean ====
section
/-! DEFINITION. The frequency sweep of channel 1 (43_sweep.md). -/

namespace Sys2Proof.Machine
open Sys2Proof

/-- The frequency `calc()` returns (R301). -/
def sweepTarget (nr10 : Byte) (shadow : Nat) : Nat :=
  if sweepNegate nr10 then shadow - (shadow >>> sweepShift nr10) else shadow + (shadow >>> sweepShift nr10)

/-- What `calc()` does to the sweep: it sets `overflow` above 2047 and never clears it (R301). -/
def sweepCheck (nr10 : Byte) (w : Sweep) : Sweep :=
  if 2047 < sweepTarget nr10 w.shadow then { w with overflow := true } else w

/-- The sweep timer's reload: the period, or 8 if the period is 0 (R302, R304). -/
def sweepReload (nr10 : Byte) : Nat := if sweepPeriod nr10 = 0 then 8 else sweepPeriod nr10

/-- The sweep reload at a trigger (R302). -/
def sweepReloaded (f : RegFile) : Sweep where
  shadow       := freq1 f
  sweepTimer   := sweepReload f.nr10
  sweepEnabled := decide (0 < sweepPeriod f.nr10) || decide (0 < sweepShift f.nr10)
  overflow     := false

/-- The sweep after a trigger: R302's reload, then R303's check if the shift is not 0. -/
def sweepTrigger (f : RegFile) : Sweep :=
  if 0 < sweepShift f.nr10 then sweepCheck f.nr10 (sweepReloaded f) else sweepReloaded f

/-- The frequency register part of `commit(n)`: NR13, and bits 2-0 of NR14 (R305). -/
def commitRegs (n : Nat) (f : RegFile) : RegFile :=
  { f with nr13 := BitVec.ofNat 8 n, nr14 := (f.nr14 &&& 0xF8) ||| BitVec.ofNat 8 (n / 256 % 8) }

/-- The calculation at a sweep-timer expiry: commit a result in range if the shift is not 0, then check once more
(R304, R305). A first result in range sets no overflow. -/
def sweepUpdate (f : RegFile) (w : Sweep) : Sweep × RegFile :=
  if sweepTarget f.nr10 w.shadow ≤ 2047 ∧ 0 < sweepShift f.nr10 then
    (sweepCheck f.nr10 { sweepCheck f.nr10 w with shadow := sweepTarget f.nr10 w.shadow },
      commitRegs (sweepTarget f.nr10 w.shadow) f)
  else (sweepCheck f.nr10 w, f)

/-- The sweep clock of steps 2 and 6 (R304): the sweep and the register file after it. -/
def sweepClock (f : RegFile) (w : Sweep) : Sweep × RegFile :=
  if w.sweepTimer - 1 = 0 then
    (if w.sweepEnabled ∧ 0 < sweepPeriod f.nr10 then sweepUpdate f { w with sweepTimer := sweepReload f.nr10 }
     else ({ w with sweepTimer := sweepReload f.nr10 }, f))
  else ({ w with sweepTimer := w.sweepTimer - 1 }, f)

end Sys2Proof.Machine
end

