-- ==== Sys2Proof/Machine/Pulse.lean ====
section
/-! DEFINITION. Pulse channels 1 and 2 (42_pulse.md): generator, ticks, triggers, and the meanings of NR10 to NR24. -/

namespace Sys2Proof.Machine
open Sys2Proof

/-- `reload_N() = (2048 - f_N) * 4` (R271). -/
def pulseReload (f : Nat) : Nat := (2048 - f) * 4

/-- The phase after an advance (R272). -/
def nextPhase (p : Nat) : Nat := (p + 1) % 8

/-- The amplitude at a phase: the volume while the duty bit is 1, else 0 (R272, R273). -/
def pulseAmp (c : Config) (nrx1 : Byte) (phase vol : Nat) : Nat :=
  if dutyBit c (dutySelect nrx1) phase then vol else 0

/-- Channel 1 after a `step()`: the timer, and at its expiry the advance of R272 (R207). -/
def stepped1 (cfg : Config) (f : RegFile) (c : Ch1) : Ch1 :=
  if timerExpires c.timer then
    { c with
      timer := pulseReload (freq1 f)
      phase := nextPhase c.phase
      amp := pulseAmp cfg f.nr11 (nextPhase c.phase) c.vol }
  else { c with timer := c.timer - 1 }

/-- Channel 2 after a `step()` (R207, R272). -/
def stepped2 (cfg : Config) (f : RegFile) (c : Ch2) : Ch2 :=
  if timerExpires c.timer then
    { c with
      timer := pulseReload (freq2 f)
      phase := nextPhase c.phase
      amp := pulseAmp cfg f.nr21 (nextPhase c.phase) c.vol }
  else { c with timer := c.timer - 1 }

/-- `step()` of channel 1. -/
def stepCh1 (s : State) : State := { s with ch1 := stepped1 s.config s.regs s.ch1 }

/-- `step()` of channel 2. -/
def stepCh2 (s : State) : State := { s with ch2 := stepped2 s.config s.regs s.ch2 }

/-- The length clock of channel 1 (R203). -/
def lengthTick1 (s : State) : State :=
  { s with ch1 := { s.ch1 with toChan := lengthClock s.regs.nr14 s.ch1.toChan } }

/-- The sweep clock of channel 1, whose commit writes NR13 and NR14 (R304, R305). -/
def sweepTick (s : State) : State :=
  { s with
    ch1 := { s.ch1 with toSweep := (sweepClock s.regs s.ch1.toSweep).1 }
    regs := (sweepClock s.regs s.ch1.toSweep).2 }

/-- The envelope clock of channel 1 (R205). -/
def envelopeTick1 (s : State) : State :=
  { s with ch1 := { s.ch1 with toEnvelope := envelopeClock s.regs.nr12 s.ch1.toEnvelope } }

/-- The length clock of channel 2 (R203). -/
def lengthTick2 (s : State) : State :=
  { s with ch2 := { s.ch2 with toChan := lengthClock s.regs.nr24 s.ch2.toChan } }

/-- The envelope clock of channel 2 (R205). -/
def envelopeTick2 (s : State) : State :=
  { s with ch2 := { s.ch2 with toEnvelope := envelopeClock s.regs.nr22 s.ch2.toEnvelope } }

/-- The length load of a WRITE to NR11: `64 - NR11[5:0]` (R202). -/
def loadLengthCh1 (s : State) : State := { s with ch1 := { s.ch1 with length := 64 - lengthLoad6 s.regs.nr11 } }

/-- The length load of a WRITE to NR21 (R202). -/
def loadLengthCh2 (s : State) : State := { s with ch2 := { s.ch2 with length := 64 - lengthLoad6 s.regs.nr21 } }

/-- `trigger()` of channel 1 (R215, R217, R274, R302, R303). -/
def triggerCh1 (s : State) : State :=
  { s with ch1 :=
    { toChan := chanTrigger 64 (pulseReload (freq1 s.regs)) (dac s.regs .ch1) s.ch1.toChan
      toEnvelope := envelopeReload s.regs.nr12
      toSweep := sweepTrigger s.regs
      phase := 0 } }

/-- `trigger()` of channel 2 (R215, R217, R274). -/
def triggerCh2 (s : State) : State :=
  { s with ch2 :=
    { toChan := chanTrigger 64 (pulseReload (freq2 s.regs)) (dac s.regs .ch2) s.ch2.toChan
      toEnvelope := envelopeReload s.regs.nr22
      phase := 0 } }

/-- R251. -/
def execRdNr10 (s : State) : Host.Outcome State Fault Refusal := stimulus (answerReg .nr10) s

/-- R252. -/
def execWrNr10 (d : Byte) (s : State) : Host.Outcome State Fault Refusal := stimulus (storeReg .nr10 d) s

/-- R253. -/
def execRdNr11 (s : State) : Host.Outcome State Fault Refusal := stimulus (answerReg .nr11) s

/-- R254, R202. -/
def execWrNr11 (d : Byte) (s : State) : Host.Outcome State Fault Refusal :=
  stimulus (fun s => loadLengthCh1 (storeReg .nr11 d s)) s

/-- R255. -/
def execRdNr12 (s : State) : Host.Outcome State Fault Refusal := stimulus (answerReg .nr12) s

/-- R256. -/
def execWrNr12 (d : Byte) (s : State) : Host.Outcome State Fault Refusal := stimulus (storeReg .nr12 d) s

/-- R257. -/
def execRdNr13 (s : State) : Host.Outcome State Fault Refusal := stimulus (answerReg .nr13) s

/-- R258. -/
def execWrNr13 (d : Byte) (s : State) : Host.Outcome State Fault Refusal := stimulus (storeReg .nr13 d) s

/-- R259. -/
def execRdNr14 (s : State) : Host.Outcome State Fault Refusal := stimulus (answerReg .nr14) s

/-- R260, R216. -/
def execWrNr14 (d : Byte) (s : State) : Host.Outcome State Fault Refusal :=
  stimulus (fun s => whenTriggerBit d triggerCh1 (storeReg .nr14 d s)) s

/-- R261. -/
def execRdNr20 (s : State) : Host.Outcome State Fault Refusal := stimulus (answerReg .nr20) s

/-- R262. -/
def execWrNr20 (d : Byte) (s : State) : Host.Outcome State Fault Refusal := stimulus (storeReg .nr20 d) s

/-- R263. -/
def execRdNr21 (s : State) : Host.Outcome State Fault Refusal := stimulus (answerReg .nr21) s

/-- R264, R202. -/
def execWrNr21 (d : Byte) (s : State) : Host.Outcome State Fault Refusal :=
  stimulus (fun s => loadLengthCh2 (storeReg .nr21 d s)) s

/-- R265. -/
def execRdNr22 (s : State) : Host.Outcome State Fault Refusal := stimulus (answerReg .nr22) s

/-- R266. -/
def execWrNr22 (d : Byte) (s : State) : Host.Outcome State Fault Refusal := stimulus (storeReg .nr22 d) s

/-- R267. -/
def execRdNr23 (s : State) : Host.Outcome State Fault Refusal := stimulus (answerReg .nr23) s

/-- R268. -/
def execWrNr23 (d : Byte) (s : State) : Host.Outcome State Fault Refusal := stimulus (storeReg .nr23 d) s

/-- R269. -/
def execRdNr24 (s : State) : Host.Outcome State Fault Refusal := stimulus (answerReg .nr24) s

/-- R270, R216. -/
def execWrNr24 (d : Byte) (s : State) : Host.Outcome State Fault Refusal :=
  stimulus (fun s => whenTriggerBit d triggerCh2 (storeReg .nr24 d s)) s

end Sys2Proof.Machine
end

