-- ==== Sys2Proof/Machine/Wave.lean ====
section
/-! DEFINITION. Wave channel 3 (44_wave.md): playback, trigger, table access, and the meanings of NR30 to NR34. -/

namespace Sys2Proof.Machine
open Sys2Proof

/-- `reload_3() = (2048 - f_3) * 2`, at an expiry and at a trigger (R346, conflict C4). -/
def waveReload (f : Nat) : Nat := (2048 - f) * 2

/-- The 4-bit sample at position `p`, high nibble first (R348). -/
def waveSample (c : Ch3) (p : Nat) : Nat :=
  if p % 2 = 0 then ((waveByte (p / 2) c).extractLsb' 4 4).toNat else ((waveByte (p / 2) c).extractLsb' 0 4).toNat

/-- `WAVE_SHIFT = [4, 0, 1, 2]`, by the volume code (R349). -/
def waveShift (code : BitVec 2) : Nat :=
  match code.toNat with
  | 0 => 4
  | 1 => 0
  | 2 => 1
  | _ => 2

/-- The position after an advance (R347). -/
def nextPos (p : Nat) : Nat := (p + 1) % 32

/-- The access counter at the start of each step of channel 3 (R345). -/
def ageAccess (window age : Nat) : Nat := min (age + 1) window

/-- Channel 3 after a `step()`: the access counter (R345), and the timer with, at its expiry, the advance of R347
(R207). -/
def stepped3 (cfg : Config) (f : RegFile) (c : Ch3) : Ch3 :=
  if timerExpires c.timer then
    { c with
      accessAge := ageAccess cfg.waveAccessWindow c.accessAge
      timer := waveReload (freq3 f)
      pos := nextPos c.pos
      amp := waveSample c (nextPos c.pos) >>> waveShift (volumeCode f.nr32) }
  else { c with accessAge := ageAccess cfg.waveAccessWindow c.accessAge, timer := c.timer - 1 }

/-- `step()` of channel 3. -/
def stepCh3 (s : State) : State := { s with ch3 := stepped3 s.config s.regs s.ch3 }

/-- The length clock of channel 3 (R203). -/
def lengthTick3 (s : State) : State :=
  { s with ch3 := { s.ch3 with toChan := lengthClock s.regs.nr34 s.ch3.toChan } }

/-- The length load of a WRITE to NR31: `256 - NR31` (R202). -/
def loadLengthCh3 (s : State) : State := { s with ch3 := { s.ch3 with length := 256 - s.regs.nr31.toNat } }

/-- `trigger()` of channel 3 (R215, R350). The wave table and the access counter are not changed. -/
def triggerCh3 (s : State) : State :=
  { s with ch3 :=
    { s.ch3 with
      toChan := chanTrigger 256 (waveReload (freq3 s.regs)) (dac s.regs .ch3) s.ch3.toChan
      pos := 0 } }

/-- An access goes straight to the addressed byte in `direct` mode, and whenever channel 3 is not enabled (R341,
R342). -/
def waveAccessDirect (s : State) : Bool := s.config.waveRamAccess == .direct || !isEnabled s .ch3

/-- The byte an arbitrated READ answers: the busy value within the window, else the byte being played (R343). -/
def arbitratedValue (s : State) : Byte :=
  if s.ch3.accessAge < s.config.waveAccessWindow then s.config.waveBusyValue else waveByte (s.ch3.pos / 2) s.ch3

/-- READ of wave byte `k` (R341, R343). -/
def readWave (k : Nat) (s : State) : State :=
  if waveAccessDirect s then giveAnswer (.byte (waveByte k s.ch3)) s
  else giveAnswer (.byte (arbitratedValue s)) { s with ch3 := { s.ch3 with accessAge := 0 } }

/-- The byte of the wave table a WRITE of byte `k` stores into, if it stores at all (R342, R344). -/
def waveWriteIndex (k : Nat) (s : State) : Option Nat :=
  if waveAccessDirect s then some k
  else if s.config.waveAccessWindow ≤ s.ch3.accessAge then some (s.ch3.pos / 2)
  else none

/-- WRITE of wave byte `k` (R342, R344). -/
def writeWave (k : Nat) (d : Byte) (s : State) : State :=
  match waveWriteIndex k s with
  | some j => { s with ch3 := storeWave j d s.ch3 }
  | none => s

/-- R331. -/
def execRdNr30 (s : State) : Host.Outcome State Fault Refusal := stimulus (answerReg .nr30) s

/-- R332. -/
def execWrNr30 (d : Byte) (s : State) : Host.Outcome State Fault Refusal := stimulus (storeReg .nr30 d) s

/-- R333. -/
def execRdNr31 (s : State) : Host.Outcome State Fault Refusal := stimulus (answerReg .nr31) s

/-- R334, R202. -/
def execWrNr31 (d : Byte) (s : State) : Host.Outcome State Fault Refusal :=
  stimulus (fun s => loadLengthCh3 (storeReg .nr31 d s)) s

/-- R335. -/
def execRdNr32 (s : State) : Host.Outcome State Fault Refusal := stimulus (answerReg .nr32) s

/-- R336. -/
def execWrNr32 (d : Byte) (s : State) : Host.Outcome State Fault Refusal := stimulus (storeReg .nr32 d) s

/-- R337. -/
def execRdNr33 (s : State) : Host.Outcome State Fault Refusal := stimulus (answerReg .nr33) s

/-- R338. -/
def execWrNr33 (d : Byte) (s : State) : Host.Outcome State Fault Refusal := stimulus (storeReg .nr33 d) s

/-- R339. -/
def execRdNr34 (s : State) : Host.Outcome State Fault Refusal := stimulus (answerReg .nr34) s

/-- R340, R216. -/
def execWrNr34 (d : Byte) (s : State) : Host.Outcome State Fault Refusal :=
  stimulus (fun s => whenTriggerBit d triggerCh3 (storeReg .nr34 d s)) s

/-- R341, R343. -/
def execRdWave (k : BitVec 4) (s : State) : Host.Outcome State Fault Refusal := stimulus (readWave k.toNat) s

/-- R342, R344. -/
def execWrWave (k : BitVec 4) (d : Byte) (s : State) : Host.Outcome State Fault Refusal :=
  stimulus (writeWave k.toNat d) s

end Sys2Proof.Machine
end

