-- ==== Sys2Proof/Machine/Cycle.lean ====
section
/-! DEFINITION. CYCLE (46_sequencer_mixer.md): frame sequencer, channel steps, mixer and downsampler. -/

namespace Sys2Proof.Machine
open Sys2Proof

/-- A sub-clock that runs on some steps only. -/
def applyIf (runs : Bool) (clock : State → State) (s : State) : State := if runs then clock s else s

/-- The sub-clocks of `tick(step)` of one channel, in R214's order: length on even steps, then sweep on steps 2 and 6
(channel 1), then envelope on step 7 (channels 1, 2 and 4). -/
def subClocks (step : Nat) (s : State) : Channel → State
  | .ch1 =>
    applyIf (step = 7) envelopeTick1
      (applyIf (step = 2 ∨ step = 6) sweepTick (applyIf (step % 2 = 0) lengthTick1 s))
  | .ch2 => applyIf (step = 7) envelopeTick2 (applyIf (step % 2 = 0) lengthTick2 s)
  | .ch3 => applyIf (step % 2 = 0) lengthTick3 s
  | .ch4 => applyIf (step = 7) envelopeTick4 (applyIf (step % 2 = 0) lengthTick4 s)

/-- `tick(step)` of one channel; a step outside 0..7 is a contract violation (R213, R501). -/
def tickChannel (c : Channel) (step : Nat) (s : State) : State :=
  unlessFaulted (fun s => if 7 < step then raiseFault (.tickStepOutOfRange step) s else subClocks step s c) s

/-- Every channel is ticked, enabled or not, in the order 1, 2, 3, 4 (R421, R423). -/
def tickAll (step : Nat) (s : State) : State :=
  tickChannel .ch4 step (tickChannel .ch3 step (tickChannel .ch2 step (tickChannel .ch1 step s)))

/-- The sequencer step advanced and its countdown reloaded (R420, R422). -/
def advanceSequencer (s : State) : State :=
  { s with ctl := { s.ctl with seqStep := (s.ctl.seqStep + 1) % 8, seqCount := seqReload s.config } }

/-- The countdown of the frame sequencer after the decrement (R420, R424). -/
def countSequencer (s : State) : State := { s with ctl := { s.ctl with seqCount := s.ctl.seqCount - 1 } }

/-- Part 1 of CYCLE: the frame sequencer (R420, R422, R424). A contract violation in a tick ends it there (R500;
log 5). -/
def sequencerPhase (s : State) : State :=
  if s.ctl.seqCount - 1 = 0 then unlessFaulted advanceSequencer (tickAll s.ctl.seqStep (countSequencer s))
  else countSequencer s

/-- Part 2 of CYCLE: every channel's `step()`, in the order 1, 2, 3, 4 (R421, R426). -/
def stepAll (s : State) : State := stepCh4 (stepCh3 (stepCh2 (stepCh1 s)))

/-- The sum over the channels routed to a side (R427). -/
def sideSum (routed : Channel → Bool) (s : State) : Nat :=
  (if routed .ch1 then outputAmplitude s .ch1 else 0) + (if routed .ch2 then outputAmplitude s .ch2 else 0) +
  (if routed .ch3 then outputAmplitude s .ch3 else 0) + (if routed .ch4 then outputAmplitude s .ch4 else 0)

/-- A side's sample before it is stored: averaged, scaled by the side's volume, clamped (R427, R428). -/
def mixSide (sum volume : Nat) (c : Config) : Nat := min (sum / 4 * volume) c.sampleMax.toNat

/-- The left sample of `mix()` (R427). -/
def mixLeft (s : State) : Byte :=
  BitVec.ofNat 8 (mixSide (sideSum (routedLeft s.regs.nr51) s) (leftVolume s.regs.nr50) s.config)

/-- The right sample of `mix()` (R427). -/
def mixRight (s : State) : Byte :=
  BitVec.ofNat 8 (mixSide (sideSum (routedRight s.regs.nr51) s) (rightVolume s.regs.nr50) s.config)

/-- A pair added to the sample buffer, left first (R430); a buffer that is then full goes to the sink (R431). -/
def emitPair (capacity : Nat) (l r : Byte) (c : Controller) : Controller :=
  if (c.buffer ++ [l, r]).length = capacity then { c with buffer := [], out := c.out ++ [c.buffer ++ [l, r]] }
  else { c with buffer := c.buffer ++ [l, r] }

/-- The controller after the downsampler's part of a CYCLE (R424, R429 to R431). -/
def downsampled (s : State) : Controller :=
  if s.ctl.sampleCount - 1 = 0 then
    emitPair s.config.bufferCapacity (mixLeft s) (mixRight s) { s.ctl with sampleCount := sampleReload s.config }
  else { s.ctl with sampleCount := s.ctl.sampleCount - 1 }

/-- Part 3 of CYCLE: the downsampler (R420). -/
def downsample (s : State) : State := { s with ctl := downsampled s }

/-- One master cycle: sequencer, steps, downsampler, in that order (R420, R421). -/
def masterCycle (s : State) : State := unlessFaulted (fun s => downsample (stepAll s)) (sequencerPhase s)

/-- R420. -/
def execCycle (s : State) : Host.Outcome State Fault Refusal := stimulus masterCycle s

end Sys2Proof.Machine
end

