-- ==== Sys2Proof/Machine/Dispatch.lean ====
section
/-! DEFINITION. One arm per row of spec/opcode_table.json, each one call of its meaning. -/

namespace Sys2Proof.Machine
open Sys2Proof

def exec (i : Instr) (s : State) : Host.Outcome State Fault Refusal :=
  match i with
  | .rdNr10 => Sys2Proof.Machine.execRdNr10 s
  | .wrNr10 d => Sys2Proof.Machine.execWrNr10 d s
  | .rdNr11 => Sys2Proof.Machine.execRdNr11 s
  | .wrNr11 d => Sys2Proof.Machine.execWrNr11 d s
  | .rdNr12 => Sys2Proof.Machine.execRdNr12 s
  | .wrNr12 d => Sys2Proof.Machine.execWrNr12 d s
  | .rdNr13 => Sys2Proof.Machine.execRdNr13 s
  | .wrNr13 d => Sys2Proof.Machine.execWrNr13 d s
  | .rdNr14 => Sys2Proof.Machine.execRdNr14 s
  | .wrNr14 d => Sys2Proof.Machine.execWrNr14 d s
  | .rdNr20 => Sys2Proof.Machine.execRdNr20 s
  | .wrNr20 d => Sys2Proof.Machine.execWrNr20 d s
  | .rdNr21 => Sys2Proof.Machine.execRdNr21 s
  | .wrNr21 d => Sys2Proof.Machine.execWrNr21 d s
  | .rdNr22 => Sys2Proof.Machine.execRdNr22 s
  | .wrNr22 d => Sys2Proof.Machine.execWrNr22 d s
  | .rdNr23 => Sys2Proof.Machine.execRdNr23 s
  | .wrNr23 d => Sys2Proof.Machine.execWrNr23 d s
  | .rdNr24 => Sys2Proof.Machine.execRdNr24 s
  | .wrNr24 d => Sys2Proof.Machine.execWrNr24 d s
  | .rdNr30 => Sys2Proof.Machine.execRdNr30 s
  | .wrNr30 d => Sys2Proof.Machine.execWrNr30 d s
  | .rdNr31 => Sys2Proof.Machine.execRdNr31 s
  | .wrNr31 d => Sys2Proof.Machine.execWrNr31 d s
  | .rdNr32 => Sys2Proof.Machine.execRdNr32 s
  | .wrNr32 d => Sys2Proof.Machine.execWrNr32 d s
  | .rdNr33 => Sys2Proof.Machine.execRdNr33 s
  | .wrNr33 d => Sys2Proof.Machine.execWrNr33 d s
  | .rdNr34 => Sys2Proof.Machine.execRdNr34 s
  | .wrNr34 d => Sys2Proof.Machine.execWrNr34 d s
  | .rdNr40 => Sys2Proof.Machine.execRdNr40 s
  | .wrNr40 d => Sys2Proof.Machine.execWrNr40 d s
  | .rdNr41 => Sys2Proof.Machine.execRdNr41 s
  | .wrNr41 d => Sys2Proof.Machine.execWrNr41 d s
  | .rdNr42 => Sys2Proof.Machine.execRdNr42 s
  | .wrNr42 d => Sys2Proof.Machine.execWrNr42 d s
  | .rdNr43 => Sys2Proof.Machine.execRdNr43 s
  | .wrNr43 d => Sys2Proof.Machine.execWrNr43 d s
  | .rdNr44 => Sys2Proof.Machine.execRdNr44 s
  | .wrNr44 d => Sys2Proof.Machine.execWrNr44 d s
  | .rdNr50 => Sys2Proof.Machine.execRdNr50 s
  | .wrNr50 d => Sys2Proof.Machine.execWrNr50 d s
  | .rdNr51 => Sys2Proof.Machine.execRdNr51 s
  | .wrNr51 d => Sys2Proof.Machine.execWrNr51 d s
  | .rdNr52 => Sys2Proof.Machine.execRdNr52 s
  | .wrNr52 d => Sys2Proof.Machine.execWrNr52 d s
  | .rdUnused27 => Sys2Proof.Machine.execRdUnused27 s
  | .rdUnused28 k => Sys2Proof.Machine.execRdUnused28 k s
  | .wrUnused27 d => Sys2Proof.Machine.execWrUnused27 d s
  | .wrUnused28 k d => Sys2Proof.Machine.execWrUnused28 k d s
  | .rdWave k => Sys2Proof.Machine.execRdWave k s
  | .wrWave k d => Sys2Proof.Machine.execWrWave k d s
  | .rdNoData a => Sys2Proof.Machine.execRdNoData a s
  | .wrNoData a d => Sys2Proof.Machine.execWrNoData a d s
  | .cycle => Sys2Proof.Machine.execCycle s

end Sys2Proof.Machine
end

