-- ==== Sys2Proof/Machine/Fetch.lean ====
section
/-! DEFINITION. How the host's stimuli reach the machine (R95, R513; log 1): a list of words, the oldest first. -/

namespace Sys2Proof.Machine
open Sys2Proof

/-- The next stimulus word and the state without it; none while the host has applied no stimulus. -/
def takeStimulus (s : State) : Option (StimulusWord × State) :=
  match s.pending with
  | [] => none
  | w :: rest => some (w, { s with pending := rest })

/-- The host applies one more stimulus, after those it has applied (R95). -/
def offer (w : StimulusWord) (s : State) : State := { s with pending := s.pending ++ [w] }

/-- A word placed so that the very next step takes it. -/
def placeNext (w : StimulusWord) (s : State) : State := { s with pending := w :: s.pending }

/-- The word placed for an opcode-table row's bits; bits that are no stimulus word are placed as the reserved word of
all ones, which `step` refuses as `decodeTableWord` does. -/
def tableStimulus (nbits w : Nat) : StimulusWord := (wordOfTableBits nbits w).getD 0x3FFFFFF

end Sys2Proof.Machine
end

