-- ==== Sys2Proof/Machine/Step.lean ====
section
/-! DEFINITION. One step: take the host's next stimulus, decode it, run it. -/

namespace Sys2Proof.Machine
open Sys2Proof

/-- One step. A configuration outside R8's conditions is refused. With no stimulus applied the machine waits (log 1). A
reserved word is refused (R113). -/
def step (s : State) : Host.Outcome State Fault Refusal :=
  if configValid s.config then
    match takeStimulus s with
    | none => .next s
    | some (w, s') =>
      match decode w with
      | .ok i => exec i s'
      | .error e => .refused (.reservedWord w e)
  else .refused .badConfiguration

/-- The state in which the very next step runs the opcode-table row's bits `w`. -/
def State.withFetchWord (s : State) (nbits w : Nat) : State := placeNext (tableStimulus nbits w) s

/-- Instructions run one after another by `exec`, stopping where one does not answer a next state. -/
def runAll : List Instr → State → Host.Outcome State Fault Refusal
  | [], s => .next s
  | i :: is, s =>
    match exec i s with
    | .next t => runAll is t
    | .fault r => .fault r
    | .refused r => .refused r

end Sys2Proof.Machine
end

