-- ==== Sys2Proof/Machine/Assembler.lean ====
section
/-! DEFINITION. The spec's text form of stimuli (30_encoding.md R116, R117): lines, the words they stand for, and the
reading of a line from its characters. -/

namespace Sys2Proof.Machine
open Sys2Proof

/-- An `<addr>` of R116: a register name, `WAVE+k`, or a hexadecimal address. -/
inductive AsmAddr where
  | reg (r : Reg)
  | wave (k : BitVec 4)
  | hex (a : Addr)
  deriving DecidableEq, Repr

/-- A line of R116 and R117. `cyc` alone is `cyc 1`. -/
inductive AsmLine where
  | rd (a : AsmAddr)
  | wr (a : AsmAddr) (d : Byte)
  | cyc (n : Nat)
  | wave (bytes : List Byte)
  | expectRd (a : AsmAddr) (answer : Byte)
  deriving DecidableEq, Repr

/-- The bus address an `<addr>` names (R116). -/
def asmAddr : AsmAddr → Addr
  | .reg r => regAddr r
  | .wave k => 0xFF3#12 ++ k
  | .hex a => a

/-- `rd A` is `A << 8` (R116). -/
def wordRd (a : Addr) : StimulusWord := a.zeroExtend 26 <<< 8

/-- `wr A, D` is `(1 << 24) | (A << 8) | D` (R116). -/
def wordWr (a : Addr) (d : Byte) : StimulusWord := (1#26 <<< 24) ||| (a.zeroExtend 26 <<< 8) ||| d.zeroExtend 26

/-- `cyc` is `0x2000000` (R116). -/
def wordCyc : StimulusWord := 0x2000000

/-- The WRITEs of `wave b0, b1, ...` from an address on, in order (R117). -/
def waveWords : Addr → List Byte → List StimulusWord
  | _, [] => []
  | a, b :: bs => wordWr a b :: waveWords (a + 1) bs

/-- The words a line stands for; none for a line R117 does not allow (`cyc 0`, a `wave` without 16 bytes). The
assertion of an `expect` line adds no stimulus beyond its READ (R117). -/
def assemble : AsmLine → Option (List StimulusWord)
  | .rd a => some [wordRd (asmAddr a)]
  | .wr a d => some [wordWr (asmAddr a) d]
  | .cyc n => if 1 ≤ n then some (List.replicate n wordCyc) else none
  | .wave bytes => if bytes.length = 16 then some (waveWords 0xFF30 bytes) else none
  | .expectRd a _ => some [wordRd (asmAddr a)]

/-- A finished token, if it is not empty. -/
def flushToken (token : List Char) : List (List Char) := if token.isEmpty then [] else [token]

/-- The tokens of a line: `;` starts a comment, blanks separate, `,` and `=` stand alone. -/
def lexLine (token : List Char) : List Char → List (List Char)
  | [] => flushToken token
  | c :: cs =>
    if c = ';' then flushToken token
    else if c = ' ' then flushToken token ++ lexLine [] cs
    else if c = ',' ∨ c = '=' then flushToken token ++ [c] :: lexLine [] cs
    else lexLine (token ++ [c]) cs

def decimalDigit (c : Char) : Option Nat :=
  if '0' ≤ c ∧ c ≤ '9' then some (c.toNat - 48) else none

def hexDigit (c : Char) : Option Nat :=
  if '0' ≤ c ∧ c ≤ '9' then some (c.toNat - 48)
  else if 'A' ≤ c ∧ c ≤ 'F' then some (c.toNat - 55)
  else if 'a' ≤ c ∧ c ≤ 'f' then some (c.toNat - 87)
  else none

/-- A number in a base, from its digits, most significant first. -/
def digits (base : Nat) (digit : Char → Option Nat) (acc : Nat) : List Char → Option Nat
  | [] => some acc
  | c :: cs =>
    match digit c with
    | some d => digits base digit (acc * base + d) cs
    | none => none

def readDecimal (t : List Char) : Option Nat := if t.isEmpty then none else digits 10 decimalDigit 0 t

/-- `0xHH`. -/
def readByte : List Char → Option Byte
  | ['0', 'x', a, b] => (digits 16 hexDigit 0 [a, b]).map (BitVec.ofNat 8)
  | _ => none

def allRegs : List Reg :=
  [.nr10, .nr11, .nr12, .nr13, .nr14, .nr20, .nr21, .nr22, .nr23, .nr24, .nr30, .nr31, .nr32, .nr33, .nr34,
   .nr40, .nr41, .nr42, .nr43, .nr44, .nr50, .nr51, .nr52]

/-- The digits of a register's name: `NR10` to `NR52` (R116). -/
def regDigits : Reg → Char × Char
  | .nr10 => ('1', '0')
  | .nr11 => ('1', '1')
  | .nr12 => ('1', '2')
  | .nr13 => ('1', '3')
  | .nr14 => ('1', '4')
  | .nr20 => ('2', '0')
  | .nr21 => ('2', '1')
  | .nr22 => ('2', '2')
  | .nr23 => ('2', '3')
  | .nr24 => ('2', '4')
  | .nr30 => ('3', '0')
  | .nr31 => ('3', '1')
  | .nr32 => ('3', '2')
  | .nr33 => ('3', '3')
  | .nr34 => ('3', '4')
  | .nr40 => ('4', '0')
  | .nr41 => ('4', '1')
  | .nr42 => ('4', '2')
  | .nr43 => ('4', '3')
  | .nr44 => ('4', '4')
  | .nr50 => ('5', '0')
  | .nr51 => ('5', '1')
  | .nr52 => ('5', '2')

/-- An `<addr>` of R116 from its token. -/
def readAddr : List Char → Option AsmAddr
  | ['N', 'R', x, y] => (allRegs.find? (fun r => regDigits r == (x, y))).map .reg
  | '0' :: 'x' :: [a, b, c, d] => (digits 16 hexDigit 0 [a, b, c, d]).map (fun n => .hex (BitVec.ofNat 16 n))
  | 'W' :: 'A' :: 'V' :: 'E' :: '+' :: k =>
    match readDecimal k with
    | some n => if n ≤ 15 then some (.wave (BitVec.ofNat 4 n)) else none
    | none => none
  | _ => none

/-- The bytes of a `wave` line, with commas between. -/
def readBytes : List (List Char) → Option (List Byte)
  | [t] => (readByte t).map (fun b => [b])
  | t :: [','] :: ts =>
    match readByte t, readBytes ts with
    | some b, some bs => some (b :: bs)
    | _, _ => none
  | _ => none

/-- A line from its tokens (R116, R117). -/
def readLine : List (List Char) → Option AsmLine
  | [['r', 'd'], a] => (readAddr a).map .rd
  | [['w', 'r'], a, [','], d] =>
    match readAddr a, readByte d with
    | some x, some b => some (.wr x b)
    | _, _ => none
  | [['c', 'y', 'c']] => some (.cyc 1)
  | [['c', 'y', 'c'], n] => (readDecimal n).map .cyc
  | ['w', 'a', 'v', 'e'] :: ts => (readBytes ts).map .wave
  | [['e', 'x', 'p', 'e', 'c', 't'], ['r', 'd'], a, ['='], d] =>
    match readAddr a, readByte d with
    | some x, some b => some (.expectRd x b)
    | _, _ => none
  | _ => none

/-- The words of one line of text: none of them for a blank or comment line; `none` for a line that is not of R116 or
R117. -/
def assembleText (line : List Char) : Option (List StimulusWord) :=
  match lexLine [] line with
  | [] => some []
  | ts =>
    match readLine ts with
    | some l => assemble l
    | none => none

/-- The words of a program, one stimulus line after another (R116). -/
def assembleProgram : List (List Char) → Option (List StimulusWord)
  | [] => some []
  | l :: ls =>
    match assembleText l, assembleProgram ls with
    | some ws, some rest => some (ws ++ rest)
    | _, _ => none

end Sys2Proof.Machine
end

