-- ==== Sys2Proof/Machine/Bus.lean ====
section
/-! DEFINITION. The bus as the components see it (40_bus.md R141, R142), and the raw calls of the host with unchecked
arguments (R501). -/

namespace Sys2Proof.Machine
open Sys2Proof

/-- What the controller offers an address to, in this order: the four channels, then its own registers (R141). -/
inductive Component where
  | channel (c : Channel)
  | controller
  deriving DecidableEq, Repr

/-- The order of R141. -/
def routeOrder : List Component := [.channel .ch1, .channel .ch2, .channel .ch3, .channel .ch4, .controller]

/-- The address ranges of R141. -/
def claims (a : Addr) : Component → Bool
  | .channel .ch1 => 0xFF10 ≤ a.toNat && a.toNat ≤ 0xFF14
  | .channel .ch2 => 0xFF15 ≤ a.toNat && a.toNat ≤ 0xFF19
  | .channel .ch3 => (0xFF1A ≤ a.toNat && a.toNat ≤ 0xFF1E) || (0xFF30 ≤ a.toNat && a.toNat ≤ 0xFF3F)
  | .channel .ch4 => 0xFF1F ≤ a.toNat && a.toNat ≤ 0xFF23
  | .controller => 0xFF24 ≤ a.toNat && a.toNat ≤ 0xFF2F

/-- A register's READ (R143), NR52's being R150. -/
def readRegister (r : Reg) (s : State) : State :=
  if r = .nr52 then giveAnswer (.byte (nr52Value s)) s else answerReg r s

/-- The side effect of a WRITE beyond storage (R88): a length load of NRx1, a trigger of NRx4. -/
def writeSideEffect (r : Reg) (d : Byte) (s : State) : State :=
  match r with
  | .nr11 => loadLengthCh1 s
  | .nr21 => loadLengthCh2 s
  | .nr31 => loadLengthCh3 s
  | .nr41 => loadLengthCh4 s
  | .nr14 => whenTriggerBit d triggerCh1 s
  | .nr24 => whenTriggerBit d triggerCh2 s
  | .nr34 => whenTriggerBit d triggerCh3 s
  | .nr44 => whenTriggerBit d triggerCh4 s
  | _ => s

/-- A register's WRITE: the byte is stored, then its side effect sees it (R145, R202, R216). -/
def writeRegister (r : Reg) (d : Byte) (s : State) : State :=
  writeSideEffect r d (storeReg r d s)

/-- A component's `read` of an address it claims (R141, R201): one of its registers, a wave byte, or the unused range. -/
def readClaimed (a : Addr) (s : State) : State :=
  match regOfAddr a with
  | some r => readRegister r s
  | none => if 0xFF30 ≤ a.toNat then readWave (a.toNat - 0xFF30) s else giveAnswer (.byte 0xFF) s

/-- A component's `write` of an address it claims (R142, R201). -/
def writeClaimed (a : Addr) (d : Byte) (s : State) : State :=
  match regOfAddr a with
  | some r => writeRegister r d s
  | none => if 0xFF30 ≤ a.toNat then writeWave (a.toNat - 0xFF30) d s else s

/-- READ(a): the first component that claims the address answers; NoData if none does (R141, R154). -/
def routeRead (a : Addr) (s : State) : List Component → State
  | [] => giveAnswer .noData s
  | c :: cs => if claims a c then readClaimed a s else routeRead a s cs

/-- WRITE(a, d), by the same ranges (R142); nothing if no component claims the address (R155). -/
def routeWrite (a : Addr) (d : Byte) (s : State) : List Component → State
  | [] => s
  | c :: cs => if claims a c then writeClaimed a d s else routeWrite a d s cs

/-- READ(a) of the controller (R141). -/
def busRead (a : Addr) (s : State) : State := routeRead a s routeOrder

/-- WRITE(a, d) of the controller (R142). -/
def busWrite (a : Addr) (d : Byte) (s : State) : State := routeWrite a d s routeOrder

/-- The raw `read(address)` call: an address above 0xFFFF is a contract violation (R501). -/
def apiRead (a : Nat) (s : State) : State :=
  unlessFaulted (fun s => if 0xFFFF < a then raiseFault (.addressOutOfRange a) s else busRead (BitVec.ofNat 16 a) s) s

/-- The raw `write(address, byte)` call (R501). -/
def apiWrite (a : Nat) (d : Byte) (s : State) : State :=
  unlessFaulted (fun s => if 0xFFFF < a then raiseFault (.addressOutOfRange a) s else busWrite (BitVec.ofNat 16 a) d s) s

/-- The raw `tick(step)` call of a channel: a step outside 0..7 is a contract violation (R213, R501). -/
def apiTick (c : Channel) (step : Nat) (s : State) : State := tickChannel c step s

end Sys2Proof.Machine
end

