-- ==== Sys2Proof/Safety.lean ====
section
/-! DEFINITION. What counts as a safe state and a safe run, and the few words the claims use to say what a CYCLE and a
trigger are. -/

namespace Sys2Proof.Machine
open Sys2Proof

/-- A faulted state is never a correct end of a run (R500). -/
def Correct (s : State) : Prop := s.fault = none

/-- The ranges of R26, R27 and R28 for a channel with the given largest length and largest reload. -/
structure ChanInRange (maxLength maxTimer : Nat) (c : Chan) : Prop where
  length : c.length ≤ maxLength
  timer  : c.timer ≤ maxTimer
  amp    : c.amp ≤ 15

/-- The ranges of R30. -/
structure EnvelopeInRange (e : Envelope) : Prop where
  vol      : e.vol ≤ 15
  envTimer : e.envTimer ≤ 8

/-- The ranges of R31. -/
structure SweepInRange (w : Sweep) : Prop where
  shadow     : w.shadow ≤ 2047
  sweepTimer : w.sweepTimer ≤ 8

/-- The ranges of R34, with the samples bounded as R428 says and every handed buffer full (R431). -/
structure ControllerInRange (c : Config) (k : Controller) : Prop where
  seqStep        : k.seqStep ≤ 7
  seqCountPos    : 1 ≤ k.seqCount
  seqCountMax    : k.seqCount ≤ seqReload c
  sampleCountPos : 1 ≤ k.sampleCount
  sampleCountMax : k.sampleCount ≤ sampleReload c
  bufferEven     : k.buffer.length % 2 = 0
  bufferRoom     : k.buffer.length < c.bufferCapacity
  bufferSamples  : ∀ b ∈ k.buffer, b.toNat ≤ 105
  outFull        : ∀ bs ∈ k.out, bs.length = c.bufferCapacity
  outSamples     : ∀ bs ∈ k.out, ∀ b ∈ bs, b.toNat ≤ 105

/-- The invariant of a run: a configuration the model takes, no contract violation, every counter in its range (R67,
R26 to R34), and the wave table in its canonical form. -/
structure Inv (s : State) : Prop where
  config  : configValid s.config = true
  correct : Correct s
  chan1   : ChanInRange 64 8192 s.ch1.toChan
  chan2   : ChanInRange 64 8192 s.ch2.toChan
  chan3   : ChanInRange 256 4096 s.ch3.toChan
  chan4   : ChanInRange 64 3670016 s.ch4.toChan
  env1    : EnvelopeInRange s.ch1.toEnvelope
  env2    : EnvelopeInRange s.ch2.toEnvelope
  env4    : EnvelopeInRange s.ch4.toEnvelope
  sweep   : SweepInRange s.ch1.toSweep
  phase1  : s.ch1.phase ≤ 7
  phase2  : s.ch2.phase ≤ 7
  pos     : s.ch3.pos ≤ 31
  age     : s.ch3.accessAge ≤ s.config.waveAccessWindow
  wave    : Memory.wf s.ch3.wave = true
  ctl     : ControllerInRange s.config s.ctl

/-- The frame sequencer's countdown expires in the next CYCLE (R424). -/
def seqExpires (s : State) : Bool := s.ctl.seqCount - 1 == 0

/-- The downsampler's countdown expires in the next CYCLE (R424). -/
def sampleExpires (s : State) : Bool := s.ctl.sampleCount - 1 == 0

/-- NRx4 of a channel, which holds its length enable (R203). -/
def nrx4 (f : RegFile) : Channel → Byte
  | .ch1 => f.nr14
  | .ch2 => f.nr24
  | .ch3 => f.nr34
  | .ch4 => f.nr44

/-- The WRITE of NRx4 of a channel (R216). -/
def writeNrx4 (d : Byte) : Channel → Instr
  | .ch1 => .wrNr14 d
  | .ch2 => .wrNr24 d
  | .ch3 => .wrNr34 d
  | .ch4 => .wrNr44 d

/-- The stimulus is a trigger of the channel: a WRITE of its NRx4 with bit 7 = 1 (R216). -/
def IsTrigger (c : Channel) (i : Instr) : Prop := ∃ d : Byte, d.getLsbD 7 = true ∧ i = writeNrx4 d c

/-- The envelope `e'` is what R205 makes of `e` at an envelope clock with NRx2 = `r`. -/
def EnvelopeClocked (r : Byte) (e e' : Envelope) : Prop :=
  if r.toNat % 8 = 0 then e' = e
  else if 1 < e.envTimer then e' = { e with envTimer := e.envTimer - 1 }
  else if e.envActive = false then e' = { e with envTimer := r.toNat % 8 }
  else if r.getLsbD 3 then
    e'.envTimer = r.toNat % 8 ∧ e'.vol = (if e.vol < 15 then e.vol + 1 else e.vol) ∧ (e'.envActive = true ↔ e'.vol ≠ 15)
  else e'.envTimer = r.toNat % 8 ∧ e'.vol = e.vol - 1 ∧ (e'.envActive = true ↔ e'.vol ≠ 0)

/-- The result of `calc()` (R301), from NR10 and a shadow frequency. -/
def calcResult (nr10 : Byte) (shadow : Nat) : Nat :=
  if nr10.getLsbD 3 then shadow - shadow / 2 ^ (nr10.toNat % 8) else shadow + shadow / 2 ^ (nr10.toNat % 8)

/-- Sweep `w'` and registers `f'` are what R304 and R305 make of `w` and `f` at a sweep clock. -/
def SweepClocked (f f' : RegFile) (w w' : Sweep) : Prop :=
  let period := f.nr10.toNat / 16 % 8
  let reload := if period = 0 then 8 else period
  let n := calcResult f.nr10 w.shadow
  if 1 < w.sweepTimer then w' = { w with sweepTimer := w.sweepTimer - 1 } ∧ f' = f
  else if w.sweepEnabled = false ∨ period = 0 then w' = { w with sweepTimer := reload } ∧ f' = f
  else if n ≤ 2047 ∧ 0 < f.nr10.toNat % 8 then
    w'.sweepTimer = reload ∧ w'.sweepEnabled = w.sweepEnabled ∧ w'.shadow = n ∧
    (w'.overflow = true ↔ w.overflow = true ∨ 2047 < calcResult f.nr10 n) ∧
    f' = { f with nr13 := BitVec.ofNat 8 (n % 256), nr14 := (f.nr14 &&& 0xF8) ||| BitVec.ofNat 8 (n / 256) }
  else
    w'.sweepTimer = reload ∧ w'.sweepEnabled = w.sweepEnabled ∧ w'.shadow = w.shadow ∧
    (w'.overflow = true ↔ w.overflow = true ∨ 2047 < n) ∧ f' = f

end Sys2Proof.Machine
end

