-- ==== Sys2Proof/Certificates/Slice0/Obligations.lean ====
section
/-! DEFINITION. The statements for the provers, from the numbered rules of spec/. -/

open Sys2Proof Sys2Proof.Machine

/-- Words of every family, with op, address and data written out from R110 and R115, decode to their row, and one word
of each reserved kind is refused under its own name. (R110, R113, R115, 95_test_vectors.md D1) -/
def Obligations.DecodesWordsOfTheSpec : Prop :=
  decode (0b00#2 ++ 0xFF10#16 ++ 0x00#8) = .ok .rdNr10 ∧
  decode (0b01#2 ++ 0xFF14#16 ++ 0x84#8) = .ok (.wrNr14 0x84) ∧
  decode (0b00#2 ++ 0xFF15#16 ++ 0x00#8) = .ok .rdNr20 ∧
  decode (0b01#2 ++ 0xFF19#16 ++ 0x87#8) = .ok (.wrNr24 0x87) ∧
  decode (0b01#2 ++ 0xFF1A#16 ++ 0x80#8) = .ok (.wrNr30 0x80) ∧
  decode (0b01#2 ++ 0xFF23#16 ++ 0xC0#8) = .ok (.wrNr44 0xC0) ∧
  decode (0b00#2 ++ 0xFF26#16 ++ 0x00#8) = .ok .rdNr52 ∧
  decode (0b00#2 ++ 0xFF27#16 ++ 0x00#8) = .ok .rdUnused27 ∧
  decode (0b01#2 ++ 0xFF2A#16 ++ 0x12#8) = .ok (.wrUnused28 2 0x12) ∧
  decode (0b00#2 ++ 0xFF3F#16 ++ 0x00#8) = .ok (.rdWave 15) ∧
  decode (0b01#2 ++ 0xFF30#16 ++ 0x55#8) = .ok (.wrWave 0 0x55) ∧
  decode (0b00#2 ++ 0xFF40#16 ++ 0x00#8) = .ok (.rdNoData 0xFF40) ∧
  decode (0b01#2 ++ 0xFF0F#16 ++ 0x12#8) = .ok (.wrNoData 0xFF0F 0x12) ∧
  decode (0b10#2 ++ 0x0000#16 ++ 0x00#8) = .ok .cycle ∧
  decode (0b11#2 ++ 0x0000#16 ++ 0x00#8) = .error .reservedOp ∧
  decode (0b00#2 ++ 0xFF26#16 ++ 0x01#8) = .error .readWithData ∧
  decode (0b10#2 ++ 0xFF10#16 ++ 0x00#8) = .error .cycleWithOperand

/-- For every well-formed instruction i, with every operand at every value its encoding admits, decode (encode i) is i.
(R110, R111, R112, R115) -/
def Obligations.DecodeEncodeRoundTrip : Prop :=
  ∀ i : Instr, i.wellFormed = true → decode (encode i) = .ok i

/-- If decode w is the instruction i, then i is well formed and encode i is w: every word has at most one meaning and no
bit of it is dropped. (R110, R112, R115, R118) -/
def Obligations.EncodeDecodeRoundTrip : Prop :=
  ∀ (w : StimulusWord) (i : Instr), decode w = .ok i → i.wellFormed = true ∧ encode i = w

/-- decode refuses w exactly if op is 0b11, or w is a READ with D not 0, or a CYCLE with A or D not 0; and a machine
whose next word is refused answers a refusal naming it, so it has no next state. The pending list is the model's own
(log 1); that the word is refused, where 95_test_vectors.md D1 and D13 name the fault state, and refused in a
faulted state too, is the model's reading (logs 6, 7). (R113, R502) -/
def Obligations.ReservedWordsAreRefused : Prop :=
  (∀ w : StimulusWord, (∃ e, decode w = .error e) ↔
    (w.extractLsb' 24 2 = 0b11#2 ∨ (w.extractLsb' 24 2 = 0b00#2 ∧ w.extractLsb' 0 8 ≠ 0#8) ∨
      (w.extractLsb' 24 2 = 0b10#2 ∧ (w.extractLsb' 8 16 ≠ 0#16 ∨ w.extractLsb' 0 8 ≠ 0#8)))) ∧
  (∀ (s : State) (w : StimulusWord) (rest : List StimulusWord) (e : Reject),
    configValid s.config = true → s.pending = w :: rest → decode w = .error e →
      step s = .refused (.reservedWord w e))

/-- For each of the 55 rows of R115: a word with the match and mask of the row decodes to that row, with the address
bits the mask leaves free as operand and the data as data; so each of the 23 registers is read and written at its
own address of R80. The two fallback rows take a READ or WRITE word with an address outside 0xFF10 to 0xFF3F. (R80,
R110, R112, R115, spec/opcode_table.json) -/
def Obligations.DecodeFollowsTheOpcodeMasks : Prop :=
  ∀ w : StimulusWord,
    (w &&& 0x3FFFFFF = 0x00FF1000 → decode w = .ok .rdNr10) ∧
    (w &&& 0x3FFFF00 = 0x01FF1000 → decode w = .ok (.wrNr10 (w.extractLsb' 0 8))) ∧
    (w &&& 0x3FFFFFF = 0x00FF1100 → decode w = .ok .rdNr11) ∧
    (w &&& 0x3FFFF00 = 0x01FF1100 → decode w = .ok (.wrNr11 (w.extractLsb' 0 8))) ∧
    (w &&& 0x3FFFFFF = 0x00FF1200 → decode w = .ok .rdNr12) ∧
    (w &&& 0x3FFFF00 = 0x01FF1200 → decode w = .ok (.wrNr12 (w.extractLsb' 0 8))) ∧
    (w &&& 0x3FFFFFF = 0x00FF1300 → decode w = .ok .rdNr13) ∧
    (w &&& 0x3FFFF00 = 0x01FF1300 → decode w = .ok (.wrNr13 (w.extractLsb' 0 8))) ∧
    (w &&& 0x3FFFFFF = 0x00FF1400 → decode w = .ok .rdNr14) ∧
    (w &&& 0x3FFFF00 = 0x01FF1400 → decode w = .ok (.wrNr14 (w.extractLsb' 0 8))) ∧
    (w &&& 0x3FFFFFF = 0x00FF1500 → decode w = .ok .rdNr20) ∧
    (w &&& 0x3FFFF00 = 0x01FF1500 → decode w = .ok (.wrNr20 (w.extractLsb' 0 8))) ∧
    (w &&& 0x3FFFFFF = 0x00FF1600 → decode w = .ok .rdNr21) ∧
    (w &&& 0x3FFFF00 = 0x01FF1600 → decode w = .ok (.wrNr21 (w.extractLsb' 0 8))) ∧
    (w &&& 0x3FFFFFF = 0x00FF1700 → decode w = .ok .rdNr22) ∧
    (w &&& 0x3FFFF00 = 0x01FF1700 → decode w = .ok (.wrNr22 (w.extractLsb' 0 8))) ∧
    (w &&& 0x3FFFFFF = 0x00FF1800 → decode w = .ok .rdNr23) ∧
    (w &&& 0x3FFFF00 = 0x01FF1800 → decode w = .ok (.wrNr23 (w.extractLsb' 0 8))) ∧
    (w &&& 0x3FFFFFF = 0x00FF1900 → decode w = .ok .rdNr24) ∧
    (w &&& 0x3FFFF00 = 0x01FF1900 → decode w = .ok (.wrNr24 (w.extractLsb' 0 8))) ∧
    (w &&& 0x3FFFFFF = 0x00FF1A00 → decode w = .ok .rdNr30) ∧
    (w &&& 0x3FFFF00 = 0x01FF1A00 → decode w = .ok (.wrNr30 (w.extractLsb' 0 8))) ∧
    (w &&& 0x3FFFFFF = 0x00FF1B00 → decode w = .ok .rdNr31) ∧
    (w &&& 0x3FFFF00 = 0x01FF1B00 → decode w = .ok (.wrNr31 (w.extractLsb' 0 8))) ∧
    (w &&& 0x3FFFFFF = 0x00FF1C00 → decode w = .ok .rdNr32) ∧
    (w &&& 0x3FFFF00 = 0x01FF1C00 → decode w = .ok (.wrNr32 (w.extractLsb' 0 8))) ∧
    (w &&& 0x3FFFFFF = 0x00FF1D00 → decode w = .ok .rdNr33) ∧
    (w &&& 0x3FFFF00 = 0x01FF1D00 → decode w = .ok (.wrNr33 (w.extractLsb' 0 8))) ∧
    (w &&& 0x3FFFFFF = 0x00FF1E00 → decode w = .ok .rdNr34) ∧
    (w &&& 0x3FFFF00 = 0x01FF1E00 → decode w = .ok (.wrNr34 (w.extractLsb' 0 8))) ∧
    (w &&& 0x3FFFFFF = 0x00FF1F00 → decode w = .ok .rdNr40) ∧
    (w &&& 0x3FFFF00 = 0x01FF1F00 → decode w = .ok (.wrNr40 (w.extractLsb' 0 8))) ∧
    (w &&& 0x3FFFFFF = 0x00FF2000 → decode w = .ok .rdNr41) ∧
    (w &&& 0x3FFFF00 = 0x01FF2000 → decode w = .ok (.wrNr41 (w.extractLsb' 0 8))) ∧
    (w &&& 0x3FFFFFF = 0x00FF2100 → decode w = .ok .rdNr42) ∧
    (w &&& 0x3FFFF00 = 0x01FF2100 → decode w = .ok (.wrNr42 (w.extractLsb' 0 8))) ∧
    (w &&& 0x3FFFFFF = 0x00FF2200 → decode w = .ok .rdNr43) ∧
    (w &&& 0x3FFFF00 = 0x01FF2200 → decode w = .ok (.wrNr43 (w.extractLsb' 0 8))) ∧
    (w &&& 0x3FFFFFF = 0x00FF2300 → decode w = .ok .rdNr44) ∧
    (w &&& 0x3FFFF00 = 0x01FF2300 → decode w = .ok (.wrNr44 (w.extractLsb' 0 8))) ∧
    (w &&& 0x3FFFFFF = 0x00FF2400 → decode w = .ok .rdNr50) ∧
    (w &&& 0x3FFFF00 = 0x01FF2400 → decode w = .ok (.wrNr50 (w.extractLsb' 0 8))) ∧
    (w &&& 0x3FFFFFF = 0x00FF2500 → decode w = .ok .rdNr51) ∧
    (w &&& 0x3FFFF00 = 0x01FF2500 → decode w = .ok (.wrNr51 (w.extractLsb' 0 8))) ∧
    (w &&& 0x3FFFFFF = 0x00FF2600 → decode w = .ok .rdNr52) ∧
    (w &&& 0x3FFFF00 = 0x01FF2600 → decode w = .ok (.wrNr52 (w.extractLsb' 0 8))) ∧
    (w &&& 0x3FFFFFF = 0x00FF2700 → decode w = .ok .rdUnused27) ∧
    (w &&& 0x3FFFF00 = 0x01FF2700 → decode w = .ok (.wrUnused27 (w.extractLsb' 0 8))) ∧
    (w &&& 0x3FFFFFF = 0x2000000 → decode w = .ok .cycle) ∧
    (w &&& 0x3FFF8FF = 0x00FF2800 → decode w = .ok (.rdUnused28 (w.extractLsb' 8 3))) ∧
    (w &&& 0x3FFF800 = 0x01FF2800 → decode w = .ok (.wrUnused28 (w.extractLsb' 8 3) (w.extractLsb' 0 8))) ∧
    (w &&& 0x3FFF0FF = 0x00FF3000 → decode w = .ok (.rdWave (w.extractLsb' 8 4))) ∧
    (w &&& 0x3FFF000 = 0x01FF3000 → decode w = .ok (.wrWave (w.extractLsb' 8 4) (w.extractLsb' 0 8))) ∧
    ((w.extractLsb' 8 16).toNat < 0xFF10 ∨ 0xFF3F < (w.extractLsb' 8 16).toNat →
      (w &&& 0x30000FF = 0x0000000 → decode w = .ok (.rdNoData (w.extractLsb' 8 16))) ∧
      (w &&& 0x3000000 = 0x1000000 → decode w = .ok (.wrNoData (w.extractLsb' 8 16) (w.extractLsb' 0 8))))

/-- The words R116 gives for rd A, wr A, D and cyc decode to READ of A, WRITE of D to A and CYCLE; cyc N stands for N of
them and wave for 16 WRITEs from 0xFF30 on in order. (R116, R117) -/
def Obligations.AssemblerWordsDecode : Prop :=
  (∀ (a : Addr) (d : Byte), decode (wordRd a) = .ok (decodeRead a) ∧ decode (wordWr a d) = .ok (decodeWrite a d)) ∧
  decode wordCyc = .ok .cycle ∧
  (∀ n, 1 ≤ n → assemble (.cyc n) = some (List.replicate n 0x2000000)) ∧
  (∀ bytes : List Byte, bytes.length = 16 → ∃ ws, assemble (.wave bytes) = some ws ∧ ws.length = 16 ∧
    ∀ (k : Nat) (b : Byte), bytes[k]? = some b →
      ∃ w, ws[k]? = some w ∧ decode w = .ok (.wrWave (BitVec.ofNat 4 k) b))

/-- With a configuration the model takes, and a pending word that decodes to i, step is exec i on the state whose
pending list has lost that word; the list of pending stimuli is the model's own (log 1). (R13, R95, R112, R513) -/
def Obligations.StepRunsTheDecodedStimulus : Prop :=
  ∀ (s : State) (w : StimulusWord) (rest : List StimulusWord) (i : Instr),
    configValid s.config = true → s.pending = w :: rest → decode w = .ok i →
      step s = exec i { s with pending := rest }

/-- With no pending stimulus a step changes nothing (the model's reading, log 1); a configuration outside the conditions
of R8, or with SEQ_RELOAD 0 (log 4), is refused. (R94, R513, R543) -/
def Obligations.StepWithoutStimulusWaits : Prop :=
  (∀ s : State, configValid s.config = true → s.pending = [] → step s = .next s) ∧
  (∀ s : State, (s.config.masterClockHz < 512 ∨ s.config.masterClockHz < s.config.sampleRateHz ∨
      s.config.sampleRateHz = 0 ∨ s.config.bufferCapacity % 2 = 1 ∨ s.config.bufferCapacity < 2) →
    step s = .refused .badConfiguration)

/-- exec answers a next state for every instruction and every state; step never answers Outcome.fault, the model's
choice (log 9): a contract violation is recorded in the field fault (R35, R500); and a step that answers a next
state leaves the parameters of R8 as they were. (R20, R35, R94, R500, R502, R506, R513) -/
def Obligations.EveryStimulusCompletes : Prop :=
  (∀ (i : Instr) (s : State), ∃ t, exec i s = .next t) ∧ (∀ (s : State) (r : Fault), step s ≠ .fault r) ∧
  (∀ s t : State, step s = .next t → t.config = s.config)

/-- A raw read or write above 0xFFFF and a tick outside 0..7 set the fault mark with their reason and change nothing
else; with the mark set, every instruction and every raw call leaves the state, its answers among it, unchanged.
(R500) -/
def Obligations.ContractViolationIsFinal : Prop :=
  (∀ (s : State) (a : Nat) (d : Byte), s.fault = none → 0xFFFF < a →
    apiRead a s = { s with fault := some (.addressOutOfRange a) } ∧
    apiWrite a d s = { s with fault := some (.addressOutOfRange a) }) ∧
  (∀ (s : State) (c : Channel) (n : Nat), s.fault = none → 7 < n →
    apiTick c n s = { s with fault := some (.tickStepOutOfRange n) }) ∧
  (∀ (s : State) (r : Fault) (i : Instr) (a n : Nat) (d : Byte) (c : Channel), s.fault = some r →
    exec i s = .next s ∧ apiRead a s = s ∧ apiWrite a d s = s ∧ apiTick c n s = s)

/-- From a state no run reaches, whose sequencer step is above 7, a CYCLE in which the sequencer expires sets
TickStepOutOfRange and goes no further; that the countdown has been decremented is the model's reading (log 5).
(R213, R500, R501) -/
def Obligations.CycleWithSequencerStepOutOfRange : Prop :=
  ∀ s : State, s.fault = none → seqExpires s = true → 7 < s.ctl.seqStep →
    exec .cycle s = .next { s with
      ctl := { s.ctl with seqCount := s.ctl.seqCount - 1 }
      fault := some (.tickStepOutOfRange s.ctl.seqStep) }

/-- Offering READ(a) or WRITE(a, d) to channel 1, 2, 3, 4 and the controller in turn has the effect of the row the
decoder picks for it; no address is claimed by two components; an address outside 0xFF10 to 0xFF3F is claimed by
none. (R112, R141, R142, R145, R154, R155, R201) -/
def Obligations.BusRoutingAgreesWithDecode : Prop :=
  (∀ (a : Addr) (d : Byte) (s : State), s.fault = none →
    exec (decodeRead a) s = .next (busRead a s) ∧ exec (decodeWrite a d) s = .next (busWrite a d s)) ∧
  (∀ (a : Addr) (c c' : Component), claims a c = true → claims a c' = true → c = c') ∧
  (∀ a : Addr, (∃ c, claims a c = true) ↔ 0xFF10 ≤ a.toNat ∧ a.toNat ≤ 0xFF3F)

/-- Each of these READs answers the stored byte with its mask bits as 1 (a mask of 0xFF leaves the byte 0xFF) and
changes nothing else: every register, channel, wave byte and counter is as before. (R251, R253, R255, R257, R259) -/
def Obligations.Channel1RegisterReads : Prop :=
  ∀ s : State, s.fault = none →
    exec .rdNr10 s = .next { s with answers := s.answers ++ [.byte (s.regs.nr10 ||| 0x80)] } ∧
    exec .rdNr11 s = .next { s with answers := s.answers ++ [.byte (s.regs.nr11 ||| 0x3F)] } ∧
    exec .rdNr12 s = .next { s with answers := s.answers ++ [.byte (s.regs.nr12)] } ∧
    exec .rdNr13 s = .next { s with answers := s.answers ++ [.byte (0xFF)] } ∧
    exec .rdNr14 s = .next { s with answers := s.answers ++ [.byte (s.regs.nr14 ||| 0xBF)] }

/-- Each of these READs answers the stored byte with its mask bits as 1 (a mask of 0xFF leaves the byte 0xFF) and
changes nothing else: every register, channel, wave byte and counter is as before. (R261, R263, R265, R267, R269) -/
def Obligations.Channel2RegisterReads : Prop :=
  ∀ s : State, s.fault = none →
    exec .rdNr20 s = .next { s with answers := s.answers ++ [.byte (0xFF)] } ∧
    exec .rdNr21 s = .next { s with answers := s.answers ++ [.byte (s.regs.nr21 ||| 0x3F)] } ∧
    exec .rdNr22 s = .next { s with answers := s.answers ++ [.byte (s.regs.nr22)] } ∧
    exec .rdNr23 s = .next { s with answers := s.answers ++ [.byte (0xFF)] } ∧
    exec .rdNr24 s = .next { s with answers := s.answers ++ [.byte (s.regs.nr24 ||| 0xBF)] }

/-- Each of these READs answers the stored byte with its mask bits as 1 (a mask of 0xFF leaves the byte 0xFF) and
changes nothing else: every register, channel, wave byte and counter is as before. (R331, R333, R335, R337, R339) -/
def Obligations.Channel3RegisterReads : Prop :=
  ∀ s : State, s.fault = none →
    exec .rdNr30 s = .next { s with answers := s.answers ++ [.byte (s.regs.nr30 ||| 0x7F)] } ∧
    exec .rdNr31 s = .next { s with answers := s.answers ++ [.byte (0xFF)] } ∧
    exec .rdNr32 s = .next { s with answers := s.answers ++ [.byte (s.regs.nr32 ||| 0x9F)] } ∧
    exec .rdNr33 s = .next { s with answers := s.answers ++ [.byte (0xFF)] } ∧
    exec .rdNr34 s = .next { s with answers := s.answers ++ [.byte (s.regs.nr34 ||| 0xBF)] }

/-- Each of these READs answers the stored byte with its mask bits as 1 (a mask of 0xFF leaves the byte 0xFF) and
changes nothing else: every register, channel, wave byte and counter is as before. (R381, R383, R385, R387, R389) -/
def Obligations.Channel4RegisterReads : Prop :=
  ∀ s : State, s.fault = none →
    exec .rdNr40 s = .next { s with answers := s.answers ++ [.byte (0xFF)] } ∧
    exec .rdNr41 s = .next { s with answers := s.answers ++ [.byte (0xFF)] } ∧
    exec .rdNr42 s = .next { s with answers := s.answers ++ [.byte (s.regs.nr42)] } ∧
    exec .rdNr43 s = .next { s with answers := s.answers ++ [.byte (s.regs.nr43)] } ∧
    exec .rdNr44 s = .next { s with answers := s.answers ++ [.byte (s.regs.nr44 ||| 0xBF)] }

/-- NR50 and NR51 answer their stored byte, 0xFF27 to 0xFF2F answer 0xFF whatever was written, an address outside the
APU answers NoData; nothing else changes. (R146, R148, R152, R154) -/
def Obligations.ControllerReads : Prop :=
  ∀ (s : State) (k : BitVec 3) (a : Addr), s.fault = none →
    exec .rdNr50 s = .next { s with answers := s.answers ++ [.byte s.regs.nr50] } ∧
    exec .rdNr51 s = .next { s with answers := s.answers ++ [.byte s.regs.nr51] } ∧
    exec .rdUnused27 s = .next { s with answers := s.answers ++ [.byte 0xFF] } ∧
    exec (.rdUnused28 k) s = .next { s with answers := s.answers ++ [.byte 0xFF] } ∧
    exec (.rdNoData a) s = .next { s with answers := s.answers ++ [.noData] }

/-- The status bit of a channel is 1 exactly if its enabled flag is set and its DAC is on, for channel 1 also without
overflow; the answer is (reg & 0x80) | 0x70 | status and nothing else changes. (R150, R211) -/
def Obligations.Nr52ReadsPowerAndStatus : Prop :=
  ∀ s : State, s.fault = none →
    exec .rdNr52 s = .next { s with answers := s.answers ++ [.byte ((s.regs.nr52 &&& 0x80) ||| 0x70 |||
      ((if s.ch4.enabled = true ∧ s.regs.nr42 &&& 0xF8 ≠ 0 then 8 else 0) |||
       (if s.ch3.enabled = true ∧ s.regs.nr30.getLsbD 7 = true then 4 else 0) |||
       (if s.ch2.enabled = true ∧ s.regs.nr22 &&& 0xF8 ≠ 0 then 2 else 0) |||
       (if s.ch1.enabled = true ∧ s.regs.nr12 &&& 0xF8 ≠ 0 ∧ s.ch1.overflow = false then 1 else 0)))] }

/-- In direct mode, or with channel 3 not enabled, RD_WAVE k answers wave byte k and changes nothing else; otherwise it
answers the busy value within the access window and else the byte being played, and sets access_age to 0. (R341,
R343) -/
def Obligations.WaveReads : Prop :=
  ∀ (s : State) (k : BitVec 4), s.fault = none →
    exec (.rdWave k) s = .next
      (if s.config.waveRamAccess = .direct ∨ isEnabled s .ch3 = false then
        { s with answers := s.answers ++ [.byte (memRead s.ch3.wave (0xFF30 + k.toNat))] }
      else
        { s with
          answers := s.answers ++ [.byte (if s.ch3.accessAge < s.config.waveAccessWindow then s.config.waveBusyValue
            else memRead s.ch3.wave (0xFF30 + s.ch3.pos / 2))]
          ch3 := { s.ch3 with accessAge := 0 } })

/-- Each of these WRITEs stores all eight bits and changes nothing else (no flag, counter, shadow, other register or
wave byte); a byte with bits 7-3 all 0 in NR12 or NR22 turns the DAC off, so the channel is not enabled and its
output is 0 at once. (R252, R256, R258, R262, R266, R268) -/
def Obligations.PulsePlainWrites : Prop :=
  ∀ (s : State) (d : Byte), s.fault = none →
    exec (.wrNr10 d) s = .next { s with regs := { s.regs with nr10 := d } } ∧
    exec (.wrNr12 d) s = .next { s with regs := { s.regs with nr12 := d } } ∧
    exec (.wrNr13 d) s = .next { s with regs := { s.regs with nr13 := d } } ∧
    exec (.wrNr20 d) s = .next { s with regs := { s.regs with nr20 := d } } ∧
    exec (.wrNr22 d) s = .next { s with regs := { s.regs with nr22 := d } } ∧
    exec (.wrNr23 d) s = .next { s with regs := { s.regs with nr23 := d } } ∧
    (d &&& 0xF8 = 0 →
      isEnabled { s with regs := { s.regs with nr12 := d } } .ch1 = false ∧
      outputAmplitude { s with regs := { s.regs with nr12 := d } } .ch1 = 0 ∧
      isEnabled { s with regs := { s.regs with nr22 := d } } .ch2 = false ∧
      outputAmplitude { s with regs := { s.regs with nr22 := d } } .ch2 = 0)

/-- Each of these WRITEs stores all eight bits and changes nothing else; NR30 with bit 7 = 0, and NR42 with bits 7-3 all
0, turn the DAC off and silence the channel at once. (R332, R336, R338, R382, R386, R388) -/
def Obligations.WaveAndNoisePlainWrites : Prop :=
  ∀ (s : State) (d : Byte), s.fault = none →
    exec (.wrNr30 d) s = .next { s with regs := { s.regs with nr30 := d } } ∧
    exec (.wrNr32 d) s = .next { s with regs := { s.regs with nr32 := d } } ∧
    exec (.wrNr33 d) s = .next { s with regs := { s.regs with nr33 := d } } ∧
    exec (.wrNr40 d) s = .next { s with regs := { s.regs with nr40 := d } } ∧
    exec (.wrNr42 d) s = .next { s with regs := { s.regs with nr42 := d } } ∧
    exec (.wrNr43 d) s = .next { s with regs := { s.regs with nr43 := d } } ∧
    (d.getLsbD 7 = false →
      isEnabled { s with regs := { s.regs with nr30 := d } } .ch3 = false ∧
      outputAmplitude { s with regs := { s.regs with nr30 := d } } .ch3 = 0) ∧
    (d &&& 0xF8 = 0 →
      isEnabled { s with regs := { s.regs with nr42 := d } } .ch4 = false ∧
      outputAmplitude { s with regs := { s.regs with nr42 := d } } .ch4 = 0)

/-- NR50, NR51 and NR52 take all eight bits and nothing else changes (a WRITE to NR52 clears and stops nothing); a WRITE
to 0xFF27 to 0xFF2F or to an unclaimed address leaves the whole state as it was. (R147, R149, R151, R153, R155) -/
def Obligations.ControllerWrites : Prop :=
  ∀ (s : State) (d : Byte) (k : BitVec 3) (a : Addr), s.fault = none →
    exec (.wrNr50 d) s = .next { s with regs := { s.regs with nr50 := d } } ∧
    exec (.wrNr51 d) s = .next { s with regs := { s.regs with nr51 := d } } ∧
    exec (.wrNr52 d) s = .next { s with regs := { s.regs with nr52 := d } } ∧
    exec (.wrUnused27 d) s = .next s ∧ exec (.wrUnused28 k d) s = .next s ∧ exec (.wrNoData a d) s = .next s

/-- NRx1 is stored and the length counter becomes 64 minus bits 5-0 (256 minus the byte for channel 3), whether or not
the channel is enabled; no other state is written. (R202) -/
def Obligations.LengthLoads : Prop :=
  ∀ (s : State) (d : Byte), s.fault = none →
    exec (.wrNr11 d) s = .next { s with
      regs := { s.regs with nr11 := d }, ch1 := { s.ch1 with length := 64 - d.toNat % 64 } } ∧
    exec (.wrNr21 d) s = .next { s with
      regs := { s.regs with nr21 := d }, ch2 := { s.ch2 with length := 64 - d.toNat % 64 } } ∧
    exec (.wrNr31 d) s = .next { s with
      regs := { s.regs with nr31 := d }, ch3 := { s.ch3 with length := 256 - d.toNat } } ∧
    exec (.wrNr41 d) s = .next { s with
      regs := { s.regs with nr41 := d }, ch4 := { s.ch4 with length := 64 - d.toNat % 64 } }

/-- With bit 7 = 0 the byte is only stored. With bit 7 = 1: enabled becomes the DAC predicate, an exhausted length 64,
the timer (2048 - f) * 4 with the new frequency bits, amplitude and phase 0, the envelope is reloaded from NR12, the
sweep from the frequency and NR10, and overflow is set exactly if the shift is not 0 and the first calculation
exceeds 2047; nothing else changes. (R215, R216, R217, R219, R260, R271, R274, R302, R303, R301, R210, R208) -/
def Obligations.Channel1TriggerWrite : Prop :=
  ∀ (s : State) (d : Byte), s.fault = none →
    exec (.wrNr14 d) s = .next
      (if d.getLsbD 7 = false then { s with regs := { s.regs with nr14 := d } }
      else
        let f := d.toNat % 8 * 256 + s.regs.nr13.toNat
        let period := s.regs.nr10.toNat / 16 % 8
        let shift := s.regs.nr10.toNat % 8
        { s with
          regs := { s.regs with nr14 := d }
          ch1 :=
            { enabled := decide (s.regs.nr12 &&& 0xF8 ≠ 0)
              length := if s.ch1.length = 0 then 64 else s.ch1.length
              timer := (2048 - f) * 4
              amp := 0
              vol := s.regs.nr12.toNat / 16
              envTimer := if s.regs.nr12.toNat % 8 = 0 then 8 else s.regs.nr12.toNat % 8
              envActive := true
              shadow := f
              sweepTimer := if period = 0 then 8 else period
              sweepEnabled := decide (0 < period ∨ 0 < shift)
              overflow := decide (0 < shift ∧ 2047 < calcResult s.regs.nr10 f)
              phase := 0 } })

/-- With bit 7 = 0 the byte is only stored. With bit 7 = 1: enabled becomes the DAC predicate, an exhausted length 64,
the timer (2048 - f) * 4, amplitude and phase 0, and the envelope is reloaded from NR22; nothing else changes.
(R208, R210, R215, R216, R217, R219, R270, R271, R274) -/
def Obligations.Channel2TriggerWrite : Prop :=
  ∀ (s : State) (d : Byte), s.fault = none →
    exec (.wrNr24 d) s = .next
      (if d.getLsbD 7 = false then { s with regs := { s.regs with nr24 := d } }
      else
        { s with
          regs := { s.regs with nr24 := d }
          ch2 :=
            { enabled := decide (s.regs.nr22 &&& 0xF8 ≠ 0)
              length := if s.ch2.length = 0 then 64 else s.ch2.length
              timer := (2048 - (d.toNat % 8 * 256 + s.regs.nr23.toNat)) * 4
              amp := 0
              vol := s.regs.nr22.toNat / 16
              envTimer := if s.regs.nr22.toNat % 8 = 0 then 8 else s.regs.nr22.toNat % 8
              envActive := true
              phase := 0 } })

/-- With bit 7 = 0 the byte is only stored. With bit 7 = 1: enabled becomes NR30 bit 7, an exhausted length 256, the
timer (2048 - f) * 2, amplitude and position 0; the wave table, the access counter and everything else are as
before. (R208, R210, R215, R216, R219, R340, R346, R350) -/
def Obligations.Channel3TriggerWrite : Prop :=
  ∀ (s : State) (d : Byte), s.fault = none →
    exec (.wrNr34 d) s = .next
      (if d.getLsbD 7 = false then { s with regs := { s.regs with nr34 := d } }
      else
        { s with
          regs := { s.regs with nr34 := d }
          ch3 :=
            { enabled := s.regs.nr30.getLsbD 7
              length := if s.ch3.length = 0 then 256 else s.ch3.length
              timer := (2048 - (d.toNat % 8 * 256 + s.regs.nr33.toNat)) * 2
              amp := 0
              wave := s.ch3.wave
              pos := 0
              accessAge := s.ch3.accessAge } })

/-- With bit 7 = 0 the byte is only stored. With bit 7 = 1: enabled becomes the DAC predicate, an exhausted length 64,
the timer the divisor of NR43 shifted left, the amplitude 0, the LFSR all ones, and the envelope is reloaded from
NR42; nothing else changes. (R210, R215, R216, R217, R219, R390, R391, R394) -/
def Obligations.Channel4TriggerWrite : Prop :=
  ∀ (s : State) (d : Byte), s.fault = none →
    exec (.wrNr44 d) s = .next
      (if d.getLsbD 7 = false then { s with regs := { s.regs with nr44 := d } }
      else
        { s with
          regs := { s.regs with nr44 := d }
          ch4 :=
            { enabled := decide (s.regs.nr42 &&& 0xF8 ≠ 0)
              length := if s.ch4.length = 0 then 64 else s.ch4.length
              timer := (if s.regs.nr43.toNat % 8 = 0 then 8 else 16 * (s.regs.nr43.toNat % 8))
                * 2 ^ (s.regs.nr43.toNat / 16)
              amp := 0
              vol := s.regs.nr42.toNat / 16
              envTimer := if s.regs.nr42.toNat % 8 = 0 then 8 else s.regs.nr42.toNat % 8
              envActive := true
              lfsr := 0x7FFF } })

/-- In direct mode, or with channel 3 not enabled, WR_WAVE k stores D as byte k; otherwise it stores D as the byte being
played if access_age has reached the window and else nothing; access_age and everything else are as before. (R342,
R344) -/
def Obligations.WaveWrites : Prop :=
  ∀ (s : State) (k : BitVec 4) (d : Byte), s.fault = none →
    exec (.wrWave k d) s = .next
      (if s.config.waveRamAccess = .direct ∨ isEnabled s .ch3 = false then
        { s with ch3 := { s.ch3 with wave := memWrite s.ch3.wave (0xFF30 + k.toNat) d } }
      else if s.config.waveAccessWindow ≤ s.ch3.accessAge then
        { s with ch3 := { s.ch3 with wave := memWrite s.ch3.wave (0xFF30 + s.ch3.pos / 2) d } }
      else s)

/-- If the meaning gives byte j as the one stored to, every address but that of byte j reads as before and, in a
canonical table, that address reads D and the table stays canonical; if it gives none, every address reads as
before. No register, counter, flag or answer changes. (R32, R342, R344) -/
def Obligations.WaveWriteFrame : Prop :=
  ∀ (s t : State) (k : BitVec 4) (d : Byte), s.fault = none → exec (.wrWave k d) s = .next t →
    t = { s with ch3 := { s.ch3 with wave := t.ch3.wave } } ∧
    (waveWriteIndex k.toNat s = none → ∀ a, memRead t.ch3.wave a = memRead s.ch3.wave a) ∧
    (∀ j, waveWriteIndex k.toNat s = some j →
      (∀ a, a ≠ waveAddr j → memRead t.ch3.wave a = memRead s.ch3.wave a) ∧
      (Memory.wf s.ch3.wave = true → s.ch3.pos ≤ 31 →
        memRead t.ch3.wave (waveAddr j) = d ∧ Memory.wf t.ch3.wave = true))

/-- From a state that meets the invariant, in direct mode, a WRITE of wave byte k followed by any number of CYCLEs and a
READ of byte k answers the byte written. (R64, R341, R342, R98) -/
def Obligations.WaveRoundTrip : Prop :=
  ∀ (s t : State) (k : BitVec 4) (d : Byte) (n : Nat), Inv s → s.config.waveRamAccess = .direct →
    runAll (.wrWave k d :: List.replicate n .cycle ++ [.rdWave k]) s = .next t →
      t.answers = s.answers ++ [.byte d]

/-- From every state in range CYCLE answers a next state without a fault; the sequencer countdown is one less, or
reloaded with the step advanced modulo 8; the sample countdown is one less, or reloaded. A countdown at 0, which
R424 rules out between stimuli, counts as expiring (log 10). (R420, R422, R424, R429) -/
def Obligations.CycleCountdowns : Prop :=
  ∀ s : State, s.fault = none → s.ctl.seqStep ≤ 7 → ∃ t, exec .cycle s = .next t ∧ t.fault = none ∧
    (if s.ctl.seqCount - 1 = 0 then
      t.ctl.seqStep = (s.ctl.seqStep + 1) % 8 ∧ t.ctl.seqCount = s.config.masterClockHz / 512
    else t.ctl.seqStep = s.ctl.seqStep ∧ t.ctl.seqCount = s.ctl.seqCount - 1) ∧
    (if s.ctl.sampleCount - 1 = 0 then t.ctl.sampleCount = s.config.masterClockHz / s.config.sampleRateHz
    else t.ctl.sampleCount = s.ctl.sampleCount - 1)

/-- In a CYCLE whose sequencer tick is an even step, each channel with NRx4 bit 6 = 1 and a length above 0 loses one,
and is disabled at once if it reaches 0; in every other case length and enabled are as before. It holds whether or
not the channel is enabled. (R203) -/
def Obligations.CycleLengthClocks : Prop :=
  ∀ s : State, s.fault = none → s.ctl.seqStep ≤ 7 → 1 ≤ s.ctl.seqCount → ∃ t, exec .cycle s = .next t ∧
    ∀ c : Channel,
      (chanOf t c).length =
        (if seqExpires s = true ∧ s.ctl.seqStep % 2 = 0 ∧ (nrx4 s.regs c).getLsbD 6 = true ∧ 0 < (chanOf s c).length
        then (chanOf s c).length - 1 else (chanOf s c).length) ∧
      (chanOf t c).enabled =
        (if seqExpires s = true ∧ s.ctl.seqStep % 2 = 0 ∧ (nrx4 s.regs c).getLsbD 6 = true ∧ (chanOf s c).length = 1
        then false else (chanOf s c).enabled)

/-- Over any sequence of ticks in range applied to a channel with length enabled, the counter has lost one for each even
step, stopping at 0; the channel is disabled exactly if the counter was above 0 and has reached 0, and a counter
already at 0 disables nothing. (R204) -/
def Obligations.LengthExpiresAfterItsTicks : Prop :=
  ∀ (s : State) (c : Channel) (steps : List Nat), s.fault = none → (∀ k ∈ steps, k ≤ 7) →
    (nrx4 s.regs c).getLsbD 6 = true →
    (chanOf (steps.foldl (fun u k => apiTick c k u) s) c).length =
      (chanOf s c).length - steps.countP (fun k => k % 2 = 0) ∧
    (chanOf (steps.foldl (fun u k => apiTick c k u) s) c).enabled =
      (if 0 < (chanOf s c).length ∧ (chanOf s c).length ≤ steps.countP (fun k => k % 2 = 0) then false
      else (chanOf s c).enabled)

/-- In a CYCLE whose sequencer tick is step 7 each envelope moves as R205 says with its NRx2 as it is; in every other
CYCLE the envelopes are as before. (R205) -/
def Obligations.CycleEnvelopeClocks : Prop :=
  ∀ s : State, s.fault = none → s.ctl.seqStep ≤ 7 → 1 ≤ s.ctl.seqCount → ∃ t, exec .cycle s = .next t ∧
    (if seqExpires s = true ∧ s.ctl.seqStep = 7 then
      EnvelopeClocked s.regs.nr12 s.ch1.toEnvelope t.ch1.toEnvelope ∧
      EnvelopeClocked s.regs.nr22 s.ch2.toEnvelope t.ch2.toEnvelope ∧
      EnvelopeClocked s.regs.nr42 s.ch4.toEnvelope t.ch4.toEnvelope
    else
      t.ch1.toEnvelope = s.ch1.toEnvelope ∧ t.ch2.toEnvelope = s.ch2.toEnvelope ∧
      t.ch4.toEnvelope = s.ch4.toEnvelope)

/-- In a CYCLE whose sequencer tick is step 2 or 6 the sweep moves as R301, R304 and R305 say, a commit changing NR13
and bits 2-0 of NR14 only; in every other CYCLE the sweep and all registers are as before. (R301, R304, R305) -/
def Obligations.CycleSweepClock : Prop :=
  ∀ s : State, s.fault = none → s.ctl.seqStep ≤ 7 → 1 ≤ s.ctl.seqCount → ∃ t, exec .cycle s = .next t ∧
    (if seqExpires s = true ∧ (s.ctl.seqStep = 2 ∨ s.ctl.seqStep = 6) then
      SweepClocked s.regs t.regs s.ch1.toSweep t.ch1.toSweep
    else t.ch1.toSweep = s.ch1.toSweep ∧ t.regs = s.regs)

/-- After a CYCLE every register but NR13 and NR14 is as before and so are bits 7-3 of NR14, every address of the wave
table reads as before, and the configuration, the pending stimuli and the answers are unchanged. (R12, R305, R350,
R420) -/
def Obligations.CycleFrame : Prop :=
  ∀ s : State, s.fault = none → s.ctl.seqStep ≤ 7 → ∃ t, exec .cycle s = .next t ∧
    t.regs = { s.regs with nr13 := t.regs.nr13, nr14 := t.regs.nr14 } ∧
    t.regs.nr14 &&& 0xF8 = s.regs.nr14 &&& 0xF8 ∧
    (∀ a, memRead t.ch3.wave a = memRead s.ch3.wave a) ∧ t.ch3.wave = s.ch3.wave ∧
    t.config = s.config ∧ t.pending = s.pending ∧ t.answers = s.answers

/-- Channels 1 and 2: with the timer above 1 only the timer changes, by one; else it is reloaded with (2048 - f) * 4
from the registers after the tick, the phase advances modulo 8, and the amplitude is the volume after the tick if
the bit of DUTY_TABLE[d] at the new phase is 1, else 0, where d is NRx1 bits 7-6 and DUTY_TABLE is duty0 to duty3 of
the configuration; the decided table is 0x80, 0x81, 0xE1, 0x7E. (R207, R208, R209, R271, R272, R273, R549) -/
def Obligations.CyclePulseSteps : Prop :=
  (standardConfig.duty0 = 0x80 ∧ standardConfig.duty1 = 0x81 ∧ standardConfig.duty2 = 0xE1 ∧ standardConfig.duty3 = 0x7E) ∧
  ∀ s : State, s.fault = none → s.ctl.seqStep ≤ 7 → ∃ t, exec .cycle s = .next t ∧
    let pattern := fun (d : Nat) =>
      if d = 0 then s.config.duty0 else if d = 1 then s.config.duty1 else if d = 2 then s.config.duty2 else s.config.duty3
    (if 1 < s.ch1.timer then
      t.ch1.timer = s.ch1.timer - 1 ∧ t.ch1.phase = s.ch1.phase ∧ t.ch1.amp = s.ch1.amp
    else
      t.ch1.timer = (2048 - (t.regs.nr14.toNat % 8 * 256 + t.regs.nr13.toNat)) * 4 ∧
      t.ch1.phase = (s.ch1.phase + 1) % 8 ∧
      t.ch1.amp = (if (pattern (s.regs.nr11.toNat / 64)).getLsbD ((s.ch1.phase + 1) % 8) = true
        then t.ch1.vol else 0)) ∧
    (if 1 < s.ch2.timer then
      t.ch2.timer = s.ch2.timer - 1 ∧ t.ch2.phase = s.ch2.phase ∧ t.ch2.amp = s.ch2.amp
    else
      t.ch2.timer = (2048 - (s.regs.nr24.toNat % 8 * 256 + s.regs.nr23.toNat)) * 4 ∧
      t.ch2.phase = (s.ch2.phase + 1) % 8 ∧
      t.ch2.amp = (if (pattern (s.regs.nr21.toNat / 64)).getLsbD ((s.ch2.phase + 1) % 8) = true
        then t.ch2.vol else 0))

/-- access_age counts up to the window; with the timer above 1 only the timer changes besides; else it is reloaded with
(2048 - f) * 2, the position advances modulo 32, and the amplitude is the 4-bit sample at the new position, high
nibble first, shifted right by the volume code. (R345, R347, R348, R349) -/
def Obligations.CycleWaveStep : Prop :=
  ∀ s : State, s.fault = none → s.ctl.seqStep ≤ 7 → ∃ t, exec .cycle s = .next t ∧
    t.ch3.accessAge = min (s.ch3.accessAge + 1) s.config.waveAccessWindow ∧
    (if 1 < s.ch3.timer then
      t.ch3.timer = s.ch3.timer - 1 ∧ t.ch3.pos = s.ch3.pos ∧ t.ch3.amp = s.ch3.amp
    else
      let p := (s.ch3.pos + 1) % 32
      let b := (memRead s.ch3.wave (0xFF30 + p / 2)).toNat
      let sample := if p % 2 = 0 then b / 16 else b % 16
      let code := s.regs.nr32.toNat / 32 % 4
      t.ch3.timer = (2048 - (s.regs.nr34.toNat % 8 * 256 + s.regs.nr33.toNat)) * 2 ∧ t.ch3.pos = p ∧
      t.ch3.amp = (if code = 0 then 0 else if code = 1 then sample else if code = 2 then sample / 2 else sample / 4))

/-- With the timer above 1 only the timer changes; else it is reloaded with the divisor shifted left for every shift,
the LFSR shifts right with bit 0 XOR bit 1 put in bit 14 (and in bit 6 in narrow mode), and the amplitude is the
volume if the new bit 0 is 0, else 0. (R391, R392, R393) -/
def Obligations.CycleNoiseStep : Prop :=
  ∀ s : State, s.fault = none → s.ctl.seqStep ≤ 7 → ∃ t, exec .cycle s = .next t ∧
    (if 1 < s.ch4.timer then
      t.ch4.timer = s.ch4.timer - 1 ∧ t.ch4.lfsr = s.ch4.lfsr ∧ t.ch4.amp = s.ch4.amp
    else
      t.ch4.timer = (if s.regs.nr43.toNat % 8 = 0 then 8 else 16 * (s.regs.nr43.toNat % 8))
        * 2 ^ (s.regs.nr43.toNat / 16) ∧
      (∀ i : Nat, t.ch4.lfsr.getLsbD i =
        (if i = 14 ∨ (i = 6 ∧ s.regs.nr43.getLsbD 3 = true) then s.ch4.lfsr.getLsbD 0 ^^ s.ch4.lfsr.getLsbD 1
        else s.ch4.lfsr.getLsbD (i + 1))) ∧
      t.ch4.amp = (if t.ch4.lfsr.getLsbD 0 = false then t.ch4.vol else 0))

/-- Each side is min(floor(sum / 4) * volume, SAMPLE_MAX) over the channels NR51 routes to it; the pair is appended left
first; a buffer that reaches its capacity goes to the sink and is emptied in the same CYCLE; without an expiry
buffer and out are as before. (R427, R430, R431) -/
def Obligations.CycleEmitsAndFlushes : Prop :=
  ∀ s : State, s.fault = none → s.ctl.seqStep ≤ 7 → 1 ≤ s.ctl.sampleCount → ∃ t, exec .cycle s = .next t ∧
    (let sum := fun (bit : Nat) =>
      (if t.regs.nr51.getLsbD bit = true then outputAmplitude t .ch1 else 0) +
      (if t.regs.nr51.getLsbD (bit + 1) = true then outputAmplitude t .ch2 else 0) +
      (if t.regs.nr51.getLsbD (bit + 2) = true then outputAmplitude t .ch3 else 0) +
      (if t.regs.nr51.getLsbD (bit + 3) = true then outputAmplitude t .ch4 else 0)
    let side := fun (bit volume : Nat) => BitVec.ofNat 8 (min (sum bit / 4 * volume) s.config.sampleMax.toNat)
    let pair := [side 4 (t.regs.nr50.toNat / 16 % 8), side 0 (t.regs.nr50.toNat % 8)]
    if s.ctl.sampleCount - 1 = 0 then
      (if s.ctl.buffer.length + 2 = s.config.bufferCapacity then
        t.ctl.buffer = [] ∧ t.ctl.out = s.ctl.out ++ [s.ctl.buffer ++ pair]
      else t.ctl.buffer = s.ctl.buffer ++ pair ∧ t.ctl.out = s.ctl.out)
    else t.ctl.buffer = s.ctl.buffer ∧ t.ctl.out = s.ctl.out)

/-- If every channel amplitude is at most 15, both samples are at most 105 and at most SAMPLE_MAX; with SAMPLE_MAX = 255
the sample is floor(sum / 4) * volume itself. (R427, R428) -/
def Obligations.MixIsAtMost105 : Prop :=
  ∀ s : State, (∀ c, (chanOf s c).amp ≤ 15) →
    (mixLeft s).toNat ≤ 105 ∧ (mixRight s).toNat ≤ 105 ∧ mixLeft s ≤ s.config.sampleMax ∧ mixRight s ≤ s.config.sampleMax ∧
    (s.config.sampleMax = 255 →
      (mixLeft s).toNat = sideSum (routedLeft s.regs.nr51) s / 4 * (s.regs.nr50.toNat / 16 % 8) ∧
      (mixRight s).toNat = sideSum (routedRight s.regs.nr51) s / 4 * (s.regs.nr50.toNat % 8))

/-- The left sample is 0 if NR51 bits 7-4 are 0, or all channels are not enabled, or NR50 bits 6-4 are 0; the right
sample likewise with NR51 bits 3-0 and NR50 bits 2-0. (R147, R149, R432) -/
def Obligations.SilentSideMixesToZero : Prop :=
  ∀ s : State,
    ((s.regs.nr51.toNat / 16 = 0 ∨ (∀ c, isEnabled s c = false) ∨ s.regs.nr50.toNat / 16 % 8 = 0) → mixLeft s = 0) ∧
    ((s.regs.nr51.toNat % 16 = 0 ∨ (∀ c, isEnabled s c = false) ∨ s.regs.nr50.toNat % 8 = 0) → mixRight s = 0)

/-- If two states have the same registers and configuration and every output amplitude of the first is at most that of
the second, so are both samples. (R427, R432) -/
def Obligations.MixIsMonotone : Prop :=
  ∀ s s' : State, s.regs = s'.regs → s.config = s'.config → (∀ c, outputAmplitude s c ≤ outputAmplitude s' c) →
    (mixLeft s).toNat ≤ (mixLeft s').toNat ∧ (mixRight s).toNat ≤ (mixRight s').toNat

/-- With the DAC bits of R210 off, output_amplitude is 0 whatever the enabled flag and the envelope; it is 0 whenever
is_enabled is false and the stored amplitude otherwise, so at most 15 when that is. (R210, R212) -/
def Obligations.DacOffSilences : Prop :=
  ∀ s : State,
    (s.regs.nr12 &&& 0xF8 = 0 → outputAmplitude s .ch1 = 0) ∧ (s.regs.nr22 &&& 0xF8 = 0 → outputAmplitude s .ch2 = 0) ∧
    (s.regs.nr30.getLsbD 7 = false → outputAmplitude s .ch3 = 0) ∧
    (s.regs.nr42 &&& 0xF8 = 0 → outputAmplitude s .ch4 = 0) ∧
    (∀ c, outputAmplitude s c = (if isEnabled s c = true then (chanOf s c).amp else 0) ∧
      ((chanOf s c).amp ≤ 15 → outputAmplitude s c ≤ 15)) ∧
    (dac s.regs .ch1 = true ↔ s.regs.nr12 &&& 0xF8 ≠ 0) ∧ (dac s.regs .ch2 = true ↔ s.regs.nr22 &&& 0xF8 ≠ 0) ∧
    (dac s.regs .ch3 = true ↔ s.regs.nr30.getLsbD 7 = true) ∧ (dac s.regs .ch4 = true ↔ s.regs.nr42 &&& 0xF8 ≠ 0)

/-- For every state that meets the invariant (a configuration the model takes, no contract violation, every field in the
range of R26 to R34 and R67, samples at most 105, handed buffers full, a canonical wave table), a step that answers
a next state answers one that meets it. (R26, R27, R28, R30, R31, R32, R34, R67, R428, R501) -/
def Obligations.StepKeepsInvariant : Prop :=
  ∀ s t : State, Inv s → step s = .next t → Inv t

/-- For every configuration that meets the conditions of R8 (and SEQ_RELOAD at least 1, log 4) the state after reset
meets the invariant. (R66, R67, R424) -/
def Obligations.ResetSatisfiesInvariant : Prop :=
  ∀ c : Config, configValid c = true → Inv (State.resetWith c)

/-- At reset every register is 0x00, every flag false, every counter 0, the wave table 0x00, access_age the window, the
LFSR 0x7FFF, seq_step 0, both controller countdowns at their reload, buffer and out empty, no fault; NR52 reads
0x70, every other register its mask, the unused range 0xFF and the wave table 0x00. (R66, R541) -/
def Obligations.ResetStateAndReads : Prop :=
  ∀ c : Config,
    (State.resetWith c).config = c ∧ (∀ r, regGet (State.resetWith c).regs r = 0) ∧
    (∀ ch, chanOf (State.resetWith c) ch = { enabled := false, length := 0, timer := 0, amp := 0 }) ∧
    (State.resetWith c).ch1.toEnvelope = { vol := 0, envTimer := 0, envActive := false } ∧
    (State.resetWith c).ch2.toEnvelope = { vol := 0, envTimer := 0, envActive := false } ∧
    (State.resetWith c).ch4.toEnvelope = { vol := 0, envTimer := 0, envActive := false } ∧
    (State.resetWith c).ch1.toSweep = { shadow := 0, sweepTimer := 0, sweepEnabled := false, overflow := false } ∧
    (State.resetWith c).ch1.phase = 0 ∧ (State.resetWith c).ch2.phase = 0 ∧ (State.resetWith c).ch3.pos = 0 ∧
    (State.resetWith c).ch3.accessAge = c.waveAccessWindow ∧ (∀ a, memRead (State.resetWith c).ch3.wave a = 0) ∧
    (State.resetWith c).ch4.lfsr = 0x7FFF ∧
    (State.resetWith c).ctl =
      { seqStep := 0
        seqCount := c.masterClockHz / 512
        sampleCount := c.masterClockHz / c.sampleRateHz
        buffer := []
        out := [] } ∧
    (State.resetWith c).fault = none ∧
    (∀ a : Addr, exec (decodeRead a) (State.resetWith c) = .next { State.resetWith c with
      answers := [if a = 0xFF26 then .byte 0x70 else
        match regOfAddr a with
        | some r => .byte (readMask r)
        | none => if 0xFF27 ≤ a.toNat ∧ a.toNat ≤ 0xFF2F then .byte 0xFF
          else if 0xFF30 ≤ a.toNat ∧ a.toNat ≤ 0xFF3F then .byte 0 else .noData] })

/-- If an instruction changes the enabled flag of a channel, it is a trigger WRITE of that channel, or a CYCLE with a
sequencer tick of an even step, in which its length counter, enabled and at 1, reaches 0 and the flag goes false, so
a WRITE that turns the DAC off does not clear it. is_enabled is false while the DAC is off, and true with the flag
set and the DAC on (for channel 1, without overflow). (R218) -/
def Obligations.EnabledChangesOnlyByTriggerOrExpiry : Prop :=
  (∀ (i : Instr) (s t : State) (c : Channel), exec i s = .next t → (chanOf t c).enabled ≠ (chanOf s c).enabled →
    IsTrigger c i ∨
    (i = .cycle ∧ seqExpires s = true ∧ s.ctl.seqStep % 2 = 0 ∧ (nrx4 s.regs c).getLsbD 6 = true ∧
      (chanOf s c).length = 1 ∧ (chanOf t c).length = 0 ∧ (chanOf t c).enabled = false)) ∧
  (∀ (s : State) (c : Channel), (dac s.regs c = false → isEnabled s c = false) ∧
    ((chanOf s c).enabled = true → dac s.regs c = true → (c = .ch1 → s.ch1.overflow = false) → isEnabled s c = true))

/-- If env_active is false, no instruction but a trigger of the channel changes its vol or sets env_active, whatever
NRx2 is set to; and a CYCLE whose envelope clock brings vol to 0 (decreasing) or 15 (increasing) leaves env_active
false. (R206) -/
def Obligations.EnvelopeFrozenUntilTrigger : Prop :=
  (∀ (i : Instr) (s t : State), exec i s = .next t →
    (s.ch1.envActive = false → ¬ IsTrigger .ch1 i → t.ch1.vol = s.ch1.vol ∧ t.ch1.envActive = false) ∧
    (s.ch2.envActive = false → ¬ IsTrigger .ch2 i → t.ch2.vol = s.ch2.vol ∧ t.ch2.envActive = false) ∧
    (s.ch4.envActive = false → ¬ IsTrigger .ch4 i → t.ch4.vol = s.ch4.vol ∧ t.ch4.envActive = false)) ∧
  (∀ s t : State, exec .cycle s = .next t →
    (t.ch1.vol ≠ s.ch1.vol → t.ch1.vol = (if s.regs.nr12.getLsbD 3 = true then 15 else 0) → t.ch1.envActive = false) ∧
    (t.ch2.vol ≠ s.ch2.vol → t.ch2.vol = (if s.regs.nr22.getLsbD 3 = true then 15 else 0) → t.ch2.envActive = false) ∧
    (t.ch4.vol ≠ s.ch4.vol → t.ch4.vol = (if s.regs.nr42.getLsbD 3 = true then 15 else 0) → t.ch4.envActive = false))

/-- With overflow set, channel 1 is not enabled and its output is 0; no instruction but a WRITE of NR14 with bit 7 = 1
clears overflow; and the CYCLE that sets overflow clears the enabled flag only if the length expires in it. (R306) -/
def Obligations.OverflowSilencesUntilTrigger : Prop :=
  (∀ s : State, s.ch1.overflow = true → isEnabled s .ch1 = false ∧ outputAmplitude s .ch1 = 0) ∧
  (∀ (i : Instr) (s t : State), exec i s = .next t → s.ch1.overflow = true → ¬ IsTrigger .ch1 i → t.ch1.overflow = true) ∧
  (∀ s t : State, exec .cycle s = .next t → s.ch1.overflow = false → t.ch1.overflow = true →
    t.ch1.enabled = s.ch1.enabled ∨ (s.ch1.length = 1 ∧ s.regs.nr14.getLsbD 6 = true))

/-- If an instruction changes ch1.shadow, it is a trigger of channel 1, or a CYCLE that ticks step 2 or 6 and commits
the new shadow to the frequency registers; a WRITE to NR13, or to NR14 without the trigger bit, leaves it. (R300) -/
def Obligations.ShadowChangesOnlyByTriggerOrCommit : Prop :=
  ∀ (i : Instr) (s t : State), exec i s = .next t → t.ch1.shadow ≠ s.ch1.shadow →
    IsTrigger .ch1 i ∨
    (i = .cycle ∧ seqExpires s = true ∧ (s.ctl.seqStep = 2 ∨ s.ctl.seqStep = 6) ∧ t.ch1.shadow ≤ 2047 ∧
      t.regs.nr14.toNat % 8 * 256 + t.regs.nr13.toNat = t.ch1.shadow)

/-- For every register, byte and number of CYCLEs between them, WRITE then READ answers D with READ_MASK, or for NR52 (D
& 0x80) | 0x70 | status; for 0xFF27 to 0xFF2F the READ answers 0xFF. One answer is given, whatever triggers and
sweep commits happened. (R156) -/
def Obligations.RegisterRoundTripThroughCycles : Prop :=
  (∀ (s : State) (r : Reg) (d : Byte) (n : Nat), s.fault = none → s.ctl.seqStep ≤ 7 →
    ∃ t, runAll (writeOfReg d r :: List.replicate n .cycle ++ [readOfReg r]) s = .next t ∧
      t.answers = s.answers ++ [.byte (if r = .nr52 then (d &&& 0x80) ||| 0x70 ||| statusBits t else d ||| readMask r)]) ∧
  (∀ (s : State) (k : BitVec 3) (d : Byte) (n : Nat), s.fault = none → s.ctl.seqStep ≤ 7 →
    ∃ t t', runAll (.wrUnused27 d :: List.replicate n .cycle ++ [.rdUnused27]) s = .next t ∧
      runAll (.wrUnused28 k d :: List.replicate n .cycle ++ [.rdUnused28 k]) s = .next t' ∧
      t.answers = s.answers ++ [.byte 0xFF] ∧ t'.answers = s.answers ++ [.byte 0xFF])

/-- For channels 1 and 2: after a trigger with frequency f and any smaller number of CYCLEs the phase and the amplitude
are 0, and after exactly (2048 - f) * 4 CYCLEs the phase is 1. (R271, R274, R550) -/
def Obligations.PulseFirstAdvanceAfterTrigger : Prop :=
  ∀ (s : State) (d : Byte) (n : Nat), s.fault = none → s.ctl.seqStep ≤ 7 → d.getLsbD 7 = true →
    (n ≤ (2048 - (d.toNat % 8 * 256 + s.regs.nr13.toNat)) * 4 →
      ∃ t, runAll (.wrNr14 d :: List.replicate n .cycle) s = .next t ∧
        (if n = (2048 - (d.toNat % 8 * 256 + s.regs.nr13.toNat)) * 4 then t.ch1.phase = 1
        else t.ch1.phase = 0 ∧ t.ch1.amp = 0)) ∧
    (n ≤ (2048 - (d.toNat % 8 * 256 + s.regs.nr23.toNat)) * 4 →
      ∃ t, runAll (.wrNr24 d :: List.replicate n .cycle) s = .next t ∧
        (if n = (2048 - (d.toNat % 8 * 256 + s.regs.nr23.toNat)) * 4 then t.ch2.phase = 1
        else t.ch2.phase = 0 ∧ t.ch2.amp = 0))

/-- After a trigger with frequency f and any smaller number of CYCLEs the position and the amplitude are 0; after
exactly (2048 - f) * 2 the position is 1 and the amplitude is the low nibble of wave byte 0 shifted by the volume
code. (R346, R347, R350) -/
def Obligations.WaveFirstSampleAfterTrigger : Prop :=
  ∀ (s : State) (d : Byte) (n : Nat), s.fault = none → s.ctl.seqStep ≤ 7 → d.getLsbD 7 = true →
    n ≤ (2048 - (d.toNat % 8 * 256 + s.regs.nr33.toNat)) * 2 →
      ∃ t, runAll (.wrNr34 d :: List.replicate n .cycle) s = .next t ∧
        (if n = (2048 - (d.toNat % 8 * 256 + s.regs.nr33.toNat)) * 2 then
          t.ch3.pos = 1 ∧
          t.ch3.amp = ((memRead s.ch3.wave 0xFF30).toNat % 16) >>> waveShift (s.regs.nr32.extractLsb' 5 2)
        else t.ch3.pos = 0 ∧ t.ch3.amp = 0)

/-- A trigger of channel 4 seeds the LFSR with all ones and the timer with the reload of NR43 (8 for divisor code 0 and
clock shift 0), with amplitude 0, the envelope reloaded and a length of 0 made 64; for fewer CYCLEs the LFSR stays
0x7FFF, and after exactly that many it has shifted once, to 0x3FFF or, in narrow mode, 0x3FBF. (R394) -/
def Obligations.NoiseFirstShiftAfterTrigger : Prop :=
  ∀ (s : State) (d : Byte) (n : Nat), s.fault = none → s.ctl.seqStep ≤ 7 → d.getLsbD 7 = true →
    (s.regs.nr43.toNat % 8 = 0 → s.regs.nr43.toNat / 16 = 0 → noiseReload s.regs.nr43 = 8) ∧
    (∃ t, exec (.wrNr44 d) s = .next t ∧ t.ch4.timer = noiseReload s.regs.nr43 ∧ t.ch4.lfsr = 0x7FFF ∧ t.ch4.amp = 0 ∧
      t.ch4.toEnvelope = envelopeReload s.regs.nr42 ∧ t.ch4.length = (if s.ch4.length = 0 then 64 else s.ch4.length)) ∧
    (n ≤ noiseReload s.regs.nr43 →
      ∃ t, runAll (.wrNr44 d :: List.replicate n .cycle) s = .next t ∧
        t.ch4.lfsr = (if n < noiseReload s.regs.nr43 then 0x7FFF else if s.regs.nr43.getLsbD 3 = true then 0x3FBF else 0x3FFF))

/-- For both width modes and all 32768 values: the LFSR after a shift is 0 exactly if it was 0, or was 0x0080 in narrow
mode; so in wide mode a nonzero LFSR never becomes 0. (R392, R395) -/
def Obligations.LfsrReachesZeroOnlyFrom0x0080 : Prop :=
  ∀ (narrow : Bool) (x : BitVec 15), lfsrNext narrow x = 0 ↔ x = 0 ∨ (narrow = true ∧ x = 0x0080)

/-- For every configuration the model takes and every n, after n CYCLEs from reset the sink has received n /
(SAMPLE_RELOAD * (BUFFER_CAPACITY / 2)) buffers, each full, the sample buffer holds two bytes for each sample since,
and the sample countdown is where n leaves it: the first flush comes at exactly SAMPLE_RELOAD * BUFFER_CAPACITY / 2.
(R424, R429, R430, R431, R432) -/
def Obligations.BufferFlushesOnSchedule : Prop :=
  ∀ (c : Config) (n : Nat), configValid c = true →
    ∃ t, runAll (List.replicate n .cycle) (State.resetWith c) = .next t ∧
      t.ctl.out.length = n / (sampleReload c * (c.bufferCapacity / 2)) ∧
      (∀ bs ∈ t.ctl.out, bs.length = c.bufferCapacity) ∧
      t.ctl.buffer.length = 2 * (n / sampleReload c % (c.bufferCapacity / 2)) ∧
      t.ctl.sampleCount = sampleReload c - n % sampleReload c

/-- For every configuration the model takes and every n, after n CYCLEs from reset seq_step is n / SEQ_RELOAD modulo 8
and seq_count is SEQ_RELOAD - n mod SEQ_RELOAD, and there is no fault. (R422, R424, R554) -/
def Obligations.SequencerTicksOnSchedule : Prop :=
  ∀ (c : Config) (n : Nat), configValid c = true →
    ∃ t, runAll (List.replicate n .cycle) (State.resetWith c) = .next t ∧ t.fault = none ∧
      t.ctl.seqStep = n / seqReload c % 8 ∧ t.ctl.seqCount = seqReload c - n % seqReload c

/-- For every instruction and every channel: two states that agree on the configuration, the fault mark, the sequencer
and that channel with its own five registers give next states that agree on that channel. (R209, R421) -/
def Obligations.ChannelsDoNotReadEachOther : Prop :=
  ∀ (i : Instr) (s s' t t' : State), exec i s = .next t → exec i s' = .next t' →
    s.config = s'.config → s.fault = s'.fault → s.ctl.seqStep = s'.ctl.seqStep → s.ctl.seqCount = s'.ctl.seqCount →
    (s.ch1 = s'.ch1 → (∀ r ∈ [Reg.nr10, .nr11, .nr12, .nr13, .nr14], regGet s.regs r = regGet s'.regs r) → t.ch1 = t'.ch1) ∧
    (s.ch2 = s'.ch2 → (∀ r ∈ [Reg.nr20, .nr21, .nr22, .nr23, .nr24], regGet s.regs r = regGet s'.regs r) → t.ch2 = t'.ch2) ∧
    (s.ch3 = s'.ch3 → (∀ r ∈ [Reg.nr30, .nr31, .nr32, .nr33, .nr34], regGet s.regs r = regGet s'.regs r) → t.ch3 = t'.ch3) ∧
    (s.ch4 = s'.ch4 → (∀ r ∈ [Reg.nr40, .nr41, .nr42, .nr43, .nr44], regGet s.regs r = regGet s'.regs r) → t.ch4 = t'.ch4)

/-- For every instruction but a READ of NR52: from two states that differ only in the stored bytes of NR20, NR40 and
NR52, the next states differ only there; so the power bit stops and clears nothing, and nothing reads the inert
slots. Two bytes of NR50 that agree outside the VIN bits 7 and 3 give the same left and right samples. (R7, R61,
R91, R151, R262, R382, R427, R512) -/
def Obligations.InertRegistersChangeNothing : Prop :=
  (∀ (i : Instr) (s t : State) (a b c : Byte), i ≠ .rdNr52 → exec i s = .next t →
    ∃ a' b' c', exec i { s with regs := { s.regs with nr20 := a, nr40 := b, nr52 := c } } =
      .next { t with regs := { t.regs with nr20 := a', nr40 := b', nr52 := c' } }) ∧
  (∀ (s : State) (v : Byte), v &&& 0x77 = s.regs.nr50 &&& 0x77 →
    mixLeft { s with regs := { s.regs with nr50 := v } } = mixLeft s ∧
    mixRight { s with regs := { s.regs with nr50 := v } } = mixRight s)
end

