-- ==== Sys2Proof/Laws/Encoding.lean ====
section
/-! SUPPORT. The fields of a stimulus word (R110): packing and taking apart are inverse, and a register's address names
that register. -/

namespace Sys2Proof

theorem packWord_toNat (op : BitVec 2) (a : Addr) (d : Byte) :
    (packWord op a d).toNat = op.toNat * 2 ^ 24 + a.toNat * 2 ^ 8 + d.toNat := by
  have h1 := a.isLt
  have h2 := d.isLt
  change (op ++ a ++ d : BitVec (2 + 16 + 8)).toNat = _
  rw [BitVec.toNat_append, BitVec.toNat_append, ← Nat.shiftLeft_add_eq_or_of_lt h1,
    ← Nat.shiftLeft_add_eq_or_of_lt h2, Nat.shiftLeft_eq, Nat.shiftLeft_eq]
  omega

theorem opField_toNat (w : StimulusWord) : (opField w).toNat = w.toNat / 2 ^ 24 := by
  have h := w.isLt
  simp only [opField, BitVec.extractLsb'_toNat, Nat.shiftRight_eq_div_pow]
  omega

theorem addrField_toNat (w : StimulusWord) : (addrField w).toNat = w.toNat / 2 ^ 8 % 2 ^ 16 := by
  simp only [addrField, BitVec.extractLsb'_toNat, Nat.shiftRight_eq_div_pow]

theorem dataField_toNat (w : StimulusWord) : (dataField w).toNat = w.toNat % 2 ^ 8 := by
  simp only [dataField, BitVec.extractLsb'_toNat, Nat.shiftRight_zero]

@[simp] theorem opField_packWord (op : BitVec 2) (a : Addr) (d : Byte) : opField (packWord op a d) = op := by
  have h1 := a.isLt
  have h2 := d.isLt
  apply BitVec.eq_of_toNat_eq
  rw [opField_toNat, packWord_toNat]
  omega

@[simp] theorem addrField_packWord (op : BitVec 2) (a : Addr) (d : Byte) : addrField (packWord op a d) = a := by
  have h1 := a.isLt
  have h2 := d.isLt
  apply BitVec.eq_of_toNat_eq
  rw [addrField_toNat, packWord_toNat]
  omega

@[simp] theorem dataField_packWord (op : BitVec 2) (a : Addr) (d : Byte) : dataField (packWord op a d) = d := by
  have h2 := d.isLt
  apply BitVec.eq_of_toNat_eq
  rw [dataField_toNat, packWord_toNat]
  omega

/-- A word is its three fields. -/
theorem packWord_fields (w : StimulusWord) : packWord (opField w) (addrField w) (dataField w) = w := by
  apply BitVec.eq_of_toNat_eq
  rw [packWord_toNat, opField_toNat, addrField_toNat, dataField_toNat]
  omega

/-- Every register has its own bus address (R80). -/
theorem regOfAddr_regAddr (r : Reg) : regOfAddr (regAddr r) = some r := by cases r <;> rfl

theorem decodeRead_regAddr (r : Reg) : decodeRead (regAddr r) = readOfReg r := by cases r <;> rfl

theorem decodeWrite_regAddr (r : Reg) (d : Byte) : decodeWrite (regAddr r) d = writeOfReg d r := by cases r <;> rfl

end Sys2Proof
end

