-- ==== Sys2Proof/Laws/State.lean ====
section
/-! SUPPORT. One lemma per field of State and update: what each operation leaves and what it writes. -/

namespace Sys2Proof.Machine
open Sys2Proof

@[simp] theorem raiseFault_config (r : Fault) (s : State) : (raiseFault r s).config = s.config := rfl
@[simp] theorem raiseFault_regs (r : Fault) (s : State) : (raiseFault r s).regs = s.regs := rfl
@[simp] theorem raiseFault_ch1 (r : Fault) (s : State) : (raiseFault r s).ch1 = s.ch1 := rfl
@[simp] theorem raiseFault_ch2 (r : Fault) (s : State) : (raiseFault r s).ch2 = s.ch2 := rfl
@[simp] theorem raiseFault_ch3 (r : Fault) (s : State) : (raiseFault r s).ch3 = s.ch3 := rfl
@[simp] theorem raiseFault_ch4 (r : Fault) (s : State) : (raiseFault r s).ch4 = s.ch4 := rfl
@[simp] theorem raiseFault_ctl (r : Fault) (s : State) : (raiseFault r s).ctl = s.ctl := rfl
@[simp] theorem raiseFault_fault (r : Fault) (s : State) : (raiseFault r s).fault = some r := rfl
@[simp] theorem raiseFault_pending (r : Fault) (s : State) : (raiseFault r s).pending = s.pending := rfl
@[simp] theorem raiseFault_answers (r : Fault) (s : State) : (raiseFault r s).answers = s.answers := rfl

@[simp] theorem giveAnswer_config (a : Answer) (s : State) : (giveAnswer a s).config = s.config := rfl
@[simp] theorem giveAnswer_regs (a : Answer) (s : State) : (giveAnswer a s).regs = s.regs := rfl
@[simp] theorem giveAnswer_ch1 (a : Answer) (s : State) : (giveAnswer a s).ch1 = s.ch1 := rfl
@[simp] theorem giveAnswer_ch2 (a : Answer) (s : State) : (giveAnswer a s).ch2 = s.ch2 := rfl
@[simp] theorem giveAnswer_ch3 (a : Answer) (s : State) : (giveAnswer a s).ch3 = s.ch3 := rfl
@[simp] theorem giveAnswer_ch4 (a : Answer) (s : State) : (giveAnswer a s).ch4 = s.ch4 := rfl
@[simp] theorem giveAnswer_ctl (a : Answer) (s : State) : (giveAnswer a s).ctl = s.ctl := rfl
@[simp] theorem giveAnswer_fault (a : Answer) (s : State) : (giveAnswer a s).fault = s.fault := rfl
@[simp] theorem giveAnswer_pending (a : Answer) (s : State) : (giveAnswer a s).pending = s.pending := rfl
@[simp] theorem giveAnswer_answers (a : Answer) (s : State) : (giveAnswer a s).answers = s.answers ++ [a] := rfl

@[simp] theorem storeReg_config (r : Reg) (d : Byte) (s : State) : (storeReg r d s).config = s.config := rfl
@[simp] theorem storeReg_regs (r : Reg) (d : Byte) (s : State) : (storeReg r d s).regs = regSet s.regs d r := rfl
@[simp] theorem storeReg_ch1 (r : Reg) (d : Byte) (s : State) : (storeReg r d s).ch1 = s.ch1 := rfl
@[simp] theorem storeReg_ch2 (r : Reg) (d : Byte) (s : State) : (storeReg r d s).ch2 = s.ch2 := rfl
@[simp] theorem storeReg_ch3 (r : Reg) (d : Byte) (s : State) : (storeReg r d s).ch3 = s.ch3 := rfl
@[simp] theorem storeReg_ch4 (r : Reg) (d : Byte) (s : State) : (storeReg r d s).ch4 = s.ch4 := rfl
@[simp] theorem storeReg_ctl (r : Reg) (d : Byte) (s : State) : (storeReg r d s).ctl = s.ctl := rfl
@[simp] theorem storeReg_fault (r : Reg) (d : Byte) (s : State) : (storeReg r d s).fault = s.fault := rfl
@[simp] theorem storeReg_pending (r : Reg) (d : Byte) (s : State) : (storeReg r d s).pending = s.pending := rfl
@[simp] theorem storeReg_answers (r : Reg) (d : Byte) (s : State) : (storeReg r d s).answers = s.answers := rfl

@[simp] theorem offer_config (w : StimulusWord) (s : State) : (offer w s).config = s.config := rfl
@[simp] theorem offer_regs (w : StimulusWord) (s : State) : (offer w s).regs = s.regs := rfl
@[simp] theorem offer_ch1 (w : StimulusWord) (s : State) : (offer w s).ch1 = s.ch1 := rfl
@[simp] theorem offer_ch2 (w : StimulusWord) (s : State) : (offer w s).ch2 = s.ch2 := rfl
@[simp] theorem offer_ch3 (w : StimulusWord) (s : State) : (offer w s).ch3 = s.ch3 := rfl
@[simp] theorem offer_ch4 (w : StimulusWord) (s : State) : (offer w s).ch4 = s.ch4 := rfl
@[simp] theorem offer_ctl (w : StimulusWord) (s : State) : (offer w s).ctl = s.ctl := rfl
@[simp] theorem offer_fault (w : StimulusWord) (s : State) : (offer w s).fault = s.fault := rfl
@[simp] theorem offer_pending (w : StimulusWord) (s : State) : (offer w s).pending = s.pending ++ [w] := rfl
@[simp] theorem offer_answers (w : StimulusWord) (s : State) : (offer w s).answers = s.answers := rfl

@[simp] theorem placeNext_config (w : StimulusWord) (s : State) : (placeNext w s).config = s.config := rfl
@[simp] theorem placeNext_regs (w : StimulusWord) (s : State) : (placeNext w s).regs = s.regs := rfl
@[simp] theorem placeNext_ch1 (w : StimulusWord) (s : State) : (placeNext w s).ch1 = s.ch1 := rfl
@[simp] theorem placeNext_ch2 (w : StimulusWord) (s : State) : (placeNext w s).ch2 = s.ch2 := rfl
@[simp] theorem placeNext_ch3 (w : StimulusWord) (s : State) : (placeNext w s).ch3 = s.ch3 := rfl
@[simp] theorem placeNext_ch4 (w : StimulusWord) (s : State) : (placeNext w s).ch4 = s.ch4 := rfl
@[simp] theorem placeNext_ctl (w : StimulusWord) (s : State) : (placeNext w s).ctl = s.ctl := rfl
@[simp] theorem placeNext_fault (w : StimulusWord) (s : State) : (placeNext w s).fault = s.fault := rfl
@[simp] theorem placeNext_pending (w : StimulusWord) (s : State) : (placeNext w s).pending = w :: s.pending := rfl
@[simp] theorem placeNext_answers (w : StimulusWord) (s : State) : (placeNext w s).answers = s.answers := rfl

@[simp] theorem countSequencer_config (s : State) : (countSequencer s).config = s.config := rfl
@[simp] theorem countSequencer_regs (s : State) : (countSequencer s).regs = s.regs := rfl
@[simp] theorem countSequencer_ch1 (s : State) : (countSequencer s).ch1 = s.ch1 := rfl
@[simp] theorem countSequencer_ch2 (s : State) : (countSequencer s).ch2 = s.ch2 := rfl
@[simp] theorem countSequencer_ch3 (s : State) : (countSequencer s).ch3 = s.ch3 := rfl
@[simp] theorem countSequencer_ch4 (s : State) : (countSequencer s).ch4 = s.ch4 := rfl
@[simp] theorem countSequencer_ctl (s : State) : (countSequencer s).ctl = { s.ctl with seqCount := s.ctl.seqCount - 1 } := rfl
@[simp] theorem countSequencer_fault (s : State) : (countSequencer s).fault = s.fault := rfl
@[simp] theorem countSequencer_pending (s : State) : (countSequencer s).pending = s.pending := rfl
@[simp] theorem countSequencer_answers (s : State) : (countSequencer s).answers = s.answers := rfl

@[simp] theorem advanceSequencer_config (s : State) : (advanceSequencer s).config = s.config := rfl
@[simp] theorem advanceSequencer_regs (s : State) : (advanceSequencer s).regs = s.regs := rfl
@[simp] theorem advanceSequencer_ch1 (s : State) : (advanceSequencer s).ch1 = s.ch1 := rfl
@[simp] theorem advanceSequencer_ch2 (s : State) : (advanceSequencer s).ch2 = s.ch2 := rfl
@[simp] theorem advanceSequencer_ch3 (s : State) : (advanceSequencer s).ch3 = s.ch3 := rfl
@[simp] theorem advanceSequencer_ch4 (s : State) : (advanceSequencer s).ch4 = s.ch4 := rfl
@[simp] theorem advanceSequencer_ctl (s : State) : (advanceSequencer s).ctl = { s.ctl with seqStep := (s.ctl.seqStep + 1) % 8, seqCount := seqReload s.config } := rfl
@[simp] theorem advanceSequencer_fault (s : State) : (advanceSequencer s).fault = s.fault := rfl
@[simp] theorem advanceSequencer_pending (s : State) : (advanceSequencer s).pending = s.pending := rfl
@[simp] theorem advanceSequencer_answers (s : State) : (advanceSequencer s).answers = s.answers := rfl

@[simp] theorem lengthTick1_config (s : State) : (lengthTick1 s).config = s.config := rfl
@[simp] theorem lengthTick1_regs (s : State) : (lengthTick1 s).regs = s.regs := rfl
@[simp] theorem lengthTick1_ch1 (s : State) : (lengthTick1 s).ch1 = { s.ch1 with toChan := lengthClock s.regs.nr14 s.ch1.toChan } := rfl
@[simp] theorem lengthTick1_ch2 (s : State) : (lengthTick1 s).ch2 = s.ch2 := rfl
@[simp] theorem lengthTick1_ch3 (s : State) : (lengthTick1 s).ch3 = s.ch3 := rfl
@[simp] theorem lengthTick1_ch4 (s : State) : (lengthTick1 s).ch4 = s.ch4 := rfl
@[simp] theorem lengthTick1_ctl (s : State) : (lengthTick1 s).ctl = s.ctl := rfl
@[simp] theorem lengthTick1_fault (s : State) : (lengthTick1 s).fault = s.fault := rfl
@[simp] theorem lengthTick1_pending (s : State) : (lengthTick1 s).pending = s.pending := rfl
@[simp] theorem lengthTick1_answers (s : State) : (lengthTick1 s).answers = s.answers := rfl

@[simp] theorem lengthTick2_config (s : State) : (lengthTick2 s).config = s.config := rfl
@[simp] theorem lengthTick2_regs (s : State) : (lengthTick2 s).regs = s.regs := rfl
@[simp] theorem lengthTick2_ch1 (s : State) : (lengthTick2 s).ch1 = s.ch1 := rfl
@[simp] theorem lengthTick2_ch2 (s : State) : (lengthTick2 s).ch2 = { s.ch2 with toChan := lengthClock s.regs.nr24 s.ch2.toChan } := rfl
@[simp] theorem lengthTick2_ch3 (s : State) : (lengthTick2 s).ch3 = s.ch3 := rfl
@[simp] theorem lengthTick2_ch4 (s : State) : (lengthTick2 s).ch4 = s.ch4 := rfl
@[simp] theorem lengthTick2_ctl (s : State) : (lengthTick2 s).ctl = s.ctl := rfl
@[simp] theorem lengthTick2_fault (s : State) : (lengthTick2 s).fault = s.fault := rfl
@[simp] theorem lengthTick2_pending (s : State) : (lengthTick2 s).pending = s.pending := rfl
@[simp] theorem lengthTick2_answers (s : State) : (lengthTick2 s).answers = s.answers := rfl

@[simp] theorem lengthTick3_config (s : State) : (lengthTick3 s).config = s.config := rfl
@[simp] theorem lengthTick3_regs (s : State) : (lengthTick3 s).regs = s.regs := rfl
@[simp] theorem lengthTick3_ch1 (s : State) : (lengthTick3 s).ch1 = s.ch1 := rfl
@[simp] theorem lengthTick3_ch2 (s : State) : (lengthTick3 s).ch2 = s.ch2 := rfl
@[simp] theorem lengthTick3_ch3 (s : State) : (lengthTick3 s).ch3 = { s.ch3 with toChan := lengthClock s.regs.nr34 s.ch3.toChan } := rfl
@[simp] theorem lengthTick3_ch4 (s : State) : (lengthTick3 s).ch4 = s.ch4 := rfl
@[simp] theorem lengthTick3_ctl (s : State) : (lengthTick3 s).ctl = s.ctl := rfl
@[simp] theorem lengthTick3_fault (s : State) : (lengthTick3 s).fault = s.fault := rfl
@[simp] theorem lengthTick3_pending (s : State) : (lengthTick3 s).pending = s.pending := rfl
@[simp] theorem lengthTick3_answers (s : State) : (lengthTick3 s).answers = s.answers := rfl

@[simp] theorem lengthTick4_config (s : State) : (lengthTick4 s).config = s.config := rfl
@[simp] theorem lengthTick4_regs (s : State) : (lengthTick4 s).regs = s.regs := rfl
@[simp] theorem lengthTick4_ch1 (s : State) : (lengthTick4 s).ch1 = s.ch1 := rfl
@[simp] theorem lengthTick4_ch2 (s : State) : (lengthTick4 s).ch2 = s.ch2 := rfl
@[simp] theorem lengthTick4_ch3 (s : State) : (lengthTick4 s).ch3 = s.ch3 := rfl
@[simp] theorem lengthTick4_ch4 (s : State) : (lengthTick4 s).ch4 = { s.ch4 with toChan := lengthClock s.regs.nr44 s.ch4.toChan } := rfl
@[simp] theorem lengthTick4_ctl (s : State) : (lengthTick4 s).ctl = s.ctl := rfl
@[simp] theorem lengthTick4_fault (s : State) : (lengthTick4 s).fault = s.fault := rfl
@[simp] theorem lengthTick4_pending (s : State) : (lengthTick4 s).pending = s.pending := rfl
@[simp] theorem lengthTick4_answers (s : State) : (lengthTick4 s).answers = s.answers := rfl

@[simp] theorem envelopeTick1_config (s : State) : (envelopeTick1 s).config = s.config := rfl
@[simp] theorem envelopeTick1_regs (s : State) : (envelopeTick1 s).regs = s.regs := rfl
@[simp] theorem envelopeTick1_ch1 (s : State) : (envelopeTick1 s).ch1 = { s.ch1 with toEnvelope := envelopeClock s.regs.nr12 s.ch1.toEnvelope } := rfl
@[simp] theorem envelopeTick1_ch2 (s : State) : (envelopeTick1 s).ch2 = s.ch2 := rfl
@[simp] theorem envelopeTick1_ch3 (s : State) : (envelopeTick1 s).ch3 = s.ch3 := rfl
@[simp] theorem envelopeTick1_ch4 (s : State) : (envelopeTick1 s).ch4 = s.ch4 := rfl
@[simp] theorem envelopeTick1_ctl (s : State) : (envelopeTick1 s).ctl = s.ctl := rfl
@[simp] theorem envelopeTick1_fault (s : State) : (envelopeTick1 s).fault = s.fault := rfl
@[simp] theorem envelopeTick1_pending (s : State) : (envelopeTick1 s).pending = s.pending := rfl
@[simp] theorem envelopeTick1_answers (s : State) : (envelopeTick1 s).answers = s.answers := rfl

@[simp] theorem envelopeTick2_config (s : State) : (envelopeTick2 s).config = s.config := rfl
@[simp] theorem envelopeTick2_regs (s : State) : (envelopeTick2 s).regs = s.regs := rfl
@[simp] theorem envelopeTick2_ch1 (s : State) : (envelopeTick2 s).ch1 = s.ch1 := rfl
@[simp] theorem envelopeTick2_ch2 (s : State) : (envelopeTick2 s).ch2 = { s.ch2 with toEnvelope := envelopeClock s.regs.nr22 s.ch2.toEnvelope } := rfl
@[simp] theorem envelopeTick2_ch3 (s : State) : (envelopeTick2 s).ch3 = s.ch3 := rfl
@[simp] theorem envelopeTick2_ch4 (s : State) : (envelopeTick2 s).ch4 = s.ch4 := rfl
@[simp] theorem envelopeTick2_ctl (s : State) : (envelopeTick2 s).ctl = s.ctl := rfl
@[simp] theorem envelopeTick2_fault (s : State) : (envelopeTick2 s).fault = s.fault := rfl
@[simp] theorem envelopeTick2_pending (s : State) : (envelopeTick2 s).pending = s.pending := rfl
@[simp] theorem envelopeTick2_answers (s : State) : (envelopeTick2 s).answers = s.answers := rfl

@[simp] theorem envelopeTick4_config (s : State) : (envelopeTick4 s).config = s.config := rfl
@[simp] theorem envelopeTick4_regs (s : State) : (envelopeTick4 s).regs = s.regs := rfl
@[simp] theorem envelopeTick4_ch1 (s : State) : (envelopeTick4 s).ch1 = s.ch1 := rfl
@[simp] theorem envelopeTick4_ch2 (s : State) : (envelopeTick4 s).ch2 = s.ch2 := rfl
@[simp] theorem envelopeTick4_ch3 (s : State) : (envelopeTick4 s).ch3 = s.ch3 := rfl
@[simp] theorem envelopeTick4_ch4 (s : State) : (envelopeTick4 s).ch4 = { s.ch4 with toEnvelope := envelopeClock s.regs.nr42 s.ch4.toEnvelope } := rfl
@[simp] theorem envelopeTick4_ctl (s : State) : (envelopeTick4 s).ctl = s.ctl := rfl
@[simp] theorem envelopeTick4_fault (s : State) : (envelopeTick4 s).fault = s.fault := rfl
@[simp] theorem envelopeTick4_pending (s : State) : (envelopeTick4 s).pending = s.pending := rfl
@[simp] theorem envelopeTick4_answers (s : State) : (envelopeTick4 s).answers = s.answers := rfl

@[simp] theorem sweepTick_config (s : State) : (sweepTick s).config = s.config := rfl
@[simp] theorem sweepTick_regs (s : State) : (sweepTick s).regs = (sweepClock s.regs s.ch1.toSweep).2 := rfl
@[simp] theorem sweepTick_ch1 (s : State) : (sweepTick s).ch1 = { s.ch1 with toSweep := (sweepClock s.regs s.ch1.toSweep).1 } := rfl
@[simp] theorem sweepTick_ch2 (s : State) : (sweepTick s).ch2 = s.ch2 := rfl
@[simp] theorem sweepTick_ch3 (s : State) : (sweepTick s).ch3 = s.ch3 := rfl
@[simp] theorem sweepTick_ch4 (s : State) : (sweepTick s).ch4 = s.ch4 := rfl
@[simp] theorem sweepTick_ctl (s : State) : (sweepTick s).ctl = s.ctl := rfl
@[simp] theorem sweepTick_fault (s : State) : (sweepTick s).fault = s.fault := rfl
@[simp] theorem sweepTick_pending (s : State) : (sweepTick s).pending = s.pending := rfl
@[simp] theorem sweepTick_answers (s : State) : (sweepTick s).answers = s.answers := rfl

@[simp] theorem loadLengthCh1_config (s : State) : (loadLengthCh1 s).config = s.config := rfl
@[simp] theorem loadLengthCh1_regs (s : State) : (loadLengthCh1 s).regs = s.regs := rfl
@[simp] theorem loadLengthCh1_ch1 (s : State) : (loadLengthCh1 s).ch1 = { s.ch1 with length := 64 - lengthLoad6 s.regs.nr11 } := rfl
@[simp] theorem loadLengthCh1_ch2 (s : State) : (loadLengthCh1 s).ch2 = s.ch2 := rfl
@[simp] theorem loadLengthCh1_ch3 (s : State) : (loadLengthCh1 s).ch3 = s.ch3 := rfl
@[simp] theorem loadLengthCh1_ch4 (s : State) : (loadLengthCh1 s).ch4 = s.ch4 := rfl
@[simp] theorem loadLengthCh1_ctl (s : State) : (loadLengthCh1 s).ctl = s.ctl := rfl
@[simp] theorem loadLengthCh1_fault (s : State) : (loadLengthCh1 s).fault = s.fault := rfl
@[simp] theorem loadLengthCh1_pending (s : State) : (loadLengthCh1 s).pending = s.pending := rfl
@[simp] theorem loadLengthCh1_answers (s : State) : (loadLengthCh1 s).answers = s.answers := rfl

@[simp] theorem loadLengthCh2_config (s : State) : (loadLengthCh2 s).config = s.config := rfl
@[simp] theorem loadLengthCh2_regs (s : State) : (loadLengthCh2 s).regs = s.regs := rfl
@[simp] theorem loadLengthCh2_ch1 (s : State) : (loadLengthCh2 s).ch1 = s.ch1 := rfl
@[simp] theorem loadLengthCh2_ch2 (s : State) : (loadLengthCh2 s).ch2 = { s.ch2 with length := 64 - lengthLoad6 s.regs.nr21 } := rfl
@[simp] theorem loadLengthCh2_ch3 (s : State) : (loadLengthCh2 s).ch3 = s.ch3 := rfl
@[simp] theorem loadLengthCh2_ch4 (s : State) : (loadLengthCh2 s).ch4 = s.ch4 := rfl
@[simp] theorem loadLengthCh2_ctl (s : State) : (loadLengthCh2 s).ctl = s.ctl := rfl
@[simp] theorem loadLengthCh2_fault (s : State) : (loadLengthCh2 s).fault = s.fault := rfl
@[simp] theorem loadLengthCh2_pending (s : State) : (loadLengthCh2 s).pending = s.pending := rfl
@[simp] theorem loadLengthCh2_answers (s : State) : (loadLengthCh2 s).answers = s.answers := rfl

@[simp] theorem loadLengthCh3_config (s : State) : (loadLengthCh3 s).config = s.config := rfl
@[simp] theorem loadLengthCh3_regs (s : State) : (loadLengthCh3 s).regs = s.regs := rfl
@[simp] theorem loadLengthCh3_ch1 (s : State) : (loadLengthCh3 s).ch1 = s.ch1 := rfl
@[simp] theorem loadLengthCh3_ch2 (s : State) : (loadLengthCh3 s).ch2 = s.ch2 := rfl
@[simp] theorem loadLengthCh3_ch3 (s : State) : (loadLengthCh3 s).ch3 = { s.ch3 with length := 256 - s.regs.nr31.toNat } := rfl
@[simp] theorem loadLengthCh3_ch4 (s : State) : (loadLengthCh3 s).ch4 = s.ch4 := rfl
@[simp] theorem loadLengthCh3_ctl (s : State) : (loadLengthCh3 s).ctl = s.ctl := rfl
@[simp] theorem loadLengthCh3_fault (s : State) : (loadLengthCh3 s).fault = s.fault := rfl
@[simp] theorem loadLengthCh3_pending (s : State) : (loadLengthCh3 s).pending = s.pending := rfl
@[simp] theorem loadLengthCh3_answers (s : State) : (loadLengthCh3 s).answers = s.answers := rfl

@[simp] theorem loadLengthCh4_config (s : State) : (loadLengthCh4 s).config = s.config := rfl
@[simp] theorem loadLengthCh4_regs (s : State) : (loadLengthCh4 s).regs = s.regs := rfl
@[simp] theorem loadLengthCh4_ch1 (s : State) : (loadLengthCh4 s).ch1 = s.ch1 := rfl
@[simp] theorem loadLengthCh4_ch2 (s : State) : (loadLengthCh4 s).ch2 = s.ch2 := rfl
@[simp] theorem loadLengthCh4_ch3 (s : State) : (loadLengthCh4 s).ch3 = s.ch3 := rfl
@[simp] theorem loadLengthCh4_ch4 (s : State) : (loadLengthCh4 s).ch4 = { s.ch4 with length := 64 - lengthLoad6 s.regs.nr41 } := rfl
@[simp] theorem loadLengthCh4_ctl (s : State) : (loadLengthCh4 s).ctl = s.ctl := rfl
@[simp] theorem loadLengthCh4_fault (s : State) : (loadLengthCh4 s).fault = s.fault := rfl
@[simp] theorem loadLengthCh4_pending (s : State) : (loadLengthCh4 s).pending = s.pending := rfl
@[simp] theorem loadLengthCh4_answers (s : State) : (loadLengthCh4 s).answers = s.answers := rfl

@[simp] theorem triggerCh1_config (s : State) : (triggerCh1 s).config = s.config := rfl
@[simp] theorem triggerCh1_regs (s : State) : (triggerCh1 s).regs = s.regs := rfl
@[simp] theorem triggerCh1_ch2 (s : State) : (triggerCh1 s).ch2 = s.ch2 := rfl
@[simp] theorem triggerCh1_ch3 (s : State) : (triggerCh1 s).ch3 = s.ch3 := rfl
@[simp] theorem triggerCh1_ch4 (s : State) : (triggerCh1 s).ch4 = s.ch4 := rfl
@[simp] theorem triggerCh1_ctl (s : State) : (triggerCh1 s).ctl = s.ctl := rfl
@[simp] theorem triggerCh1_fault (s : State) : (triggerCh1 s).fault = s.fault := rfl
@[simp] theorem triggerCh1_pending (s : State) : (triggerCh1 s).pending = s.pending := rfl
@[simp] theorem triggerCh1_answers (s : State) : (triggerCh1 s).answers = s.answers := rfl

@[simp] theorem triggerCh2_config (s : State) : (triggerCh2 s).config = s.config := rfl
@[simp] theorem triggerCh2_regs (s : State) : (triggerCh2 s).regs = s.regs := rfl
@[simp] theorem triggerCh2_ch1 (s : State) : (triggerCh2 s).ch1 = s.ch1 := rfl
@[simp] theorem triggerCh2_ch3 (s : State) : (triggerCh2 s).ch3 = s.ch3 := rfl
@[simp] theorem triggerCh2_ch4 (s : State) : (triggerCh2 s).ch4 = s.ch4 := rfl
@[simp] theorem triggerCh2_ctl (s : State) : (triggerCh2 s).ctl = s.ctl := rfl
@[simp] theorem triggerCh2_fault (s : State) : (triggerCh2 s).fault = s.fault := rfl
@[simp] theorem triggerCh2_pending (s : State) : (triggerCh2 s).pending = s.pending := rfl
@[simp] theorem triggerCh2_answers (s : State) : (triggerCh2 s).answers = s.answers := rfl

@[simp] theorem triggerCh3_config (s : State) : (triggerCh3 s).config = s.config := rfl
@[simp] theorem triggerCh3_regs (s : State) : (triggerCh3 s).regs = s.regs := rfl
@[simp] theorem triggerCh3_ch1 (s : State) : (triggerCh3 s).ch1 = s.ch1 := rfl
@[simp] theorem triggerCh3_ch2 (s : State) : (triggerCh3 s).ch2 = s.ch2 := rfl
@[simp] theorem triggerCh3_ch4 (s : State) : (triggerCh3 s).ch4 = s.ch4 := rfl
@[simp] theorem triggerCh3_ctl (s : State) : (triggerCh3 s).ctl = s.ctl := rfl
@[simp] theorem triggerCh3_fault (s : State) : (triggerCh3 s).fault = s.fault := rfl
@[simp] theorem triggerCh3_pending (s : State) : (triggerCh3 s).pending = s.pending := rfl
@[simp] theorem triggerCh3_answers (s : State) : (triggerCh3 s).answers = s.answers := rfl

@[simp] theorem triggerCh4_config (s : State) : (triggerCh4 s).config = s.config := rfl
@[simp] theorem triggerCh4_regs (s : State) : (triggerCh4 s).regs = s.regs := rfl
@[simp] theorem triggerCh4_ch1 (s : State) : (triggerCh4 s).ch1 = s.ch1 := rfl
@[simp] theorem triggerCh4_ch2 (s : State) : (triggerCh4 s).ch2 = s.ch2 := rfl
@[simp] theorem triggerCh4_ch3 (s : State) : (triggerCh4 s).ch3 = s.ch3 := rfl
@[simp] theorem triggerCh4_ctl (s : State) : (triggerCh4 s).ctl = s.ctl := rfl
@[simp] theorem triggerCh4_fault (s : State) : (triggerCh4 s).fault = s.fault := rfl
@[simp] theorem triggerCh4_pending (s : State) : (triggerCh4 s).pending = s.pending := rfl
@[simp] theorem triggerCh4_answers (s : State) : (triggerCh4 s).answers = s.answers := rfl

@[simp] theorem stepCh1_config (s : State) : (stepCh1 s).config = s.config := rfl
@[simp] theorem stepCh1_regs (s : State) : (stepCh1 s).regs = s.regs := rfl
@[simp] theorem stepCh1_ch1 (s : State) : (stepCh1 s).ch1 = stepped1 s.config s.regs s.ch1 := rfl
@[simp] theorem stepCh1_ch2 (s : State) : (stepCh1 s).ch2 = s.ch2 := rfl
@[simp] theorem stepCh1_ch3 (s : State) : (stepCh1 s).ch3 = s.ch3 := rfl
@[simp] theorem stepCh1_ch4 (s : State) : (stepCh1 s).ch4 = s.ch4 := rfl
@[simp] theorem stepCh1_ctl (s : State) : (stepCh1 s).ctl = s.ctl := rfl
@[simp] theorem stepCh1_fault (s : State) : (stepCh1 s).fault = s.fault := rfl
@[simp] theorem stepCh1_pending (s : State) : (stepCh1 s).pending = s.pending := rfl
@[simp] theorem stepCh1_answers (s : State) : (stepCh1 s).answers = s.answers := rfl

@[simp] theorem stepCh2_config (s : State) : (stepCh2 s).config = s.config := rfl
@[simp] theorem stepCh2_regs (s : State) : (stepCh2 s).regs = s.regs := rfl
@[simp] theorem stepCh2_ch1 (s : State) : (stepCh2 s).ch1 = s.ch1 := rfl
@[simp] theorem stepCh2_ch2 (s : State) : (stepCh2 s).ch2 = stepped2 s.config s.regs s.ch2 := rfl
@[simp] theorem stepCh2_ch3 (s : State) : (stepCh2 s).ch3 = s.ch3 := rfl
@[simp] theorem stepCh2_ch4 (s : State) : (stepCh2 s).ch4 = s.ch4 := rfl
@[simp] theorem stepCh2_ctl (s : State) : (stepCh2 s).ctl = s.ctl := rfl
@[simp] theorem stepCh2_fault (s : State) : (stepCh2 s).fault = s.fault := rfl
@[simp] theorem stepCh2_pending (s : State) : (stepCh2 s).pending = s.pending := rfl
@[simp] theorem stepCh2_answers (s : State) : (stepCh2 s).answers = s.answers := rfl

@[simp] theorem stepCh3_config (s : State) : (stepCh3 s).config = s.config := rfl
@[simp] theorem stepCh3_regs (s : State) : (stepCh3 s).regs = s.regs := rfl
@[simp] theorem stepCh3_ch1 (s : State) : (stepCh3 s).ch1 = s.ch1 := rfl
@[simp] theorem stepCh3_ch2 (s : State) : (stepCh3 s).ch2 = s.ch2 := rfl
@[simp] theorem stepCh3_ch3 (s : State) : (stepCh3 s).ch3 = stepped3 s.config s.regs s.ch3 := rfl
@[simp] theorem stepCh3_ch4 (s : State) : (stepCh3 s).ch4 = s.ch4 := rfl
@[simp] theorem stepCh3_ctl (s : State) : (stepCh3 s).ctl = s.ctl := rfl
@[simp] theorem stepCh3_fault (s : State) : (stepCh3 s).fault = s.fault := rfl
@[simp] theorem stepCh3_pending (s : State) : (stepCh3 s).pending = s.pending := rfl
@[simp] theorem stepCh3_answers (s : State) : (stepCh3 s).answers = s.answers := rfl

@[simp] theorem stepCh4_config (s : State) : (stepCh4 s).config = s.config := rfl
@[simp] theorem stepCh4_regs (s : State) : (stepCh4 s).regs = s.regs := rfl
@[simp] theorem stepCh4_ch1 (s : State) : (stepCh4 s).ch1 = s.ch1 := rfl
@[simp] theorem stepCh4_ch2 (s : State) : (stepCh4 s).ch2 = s.ch2 := rfl
@[simp] theorem stepCh4_ch3 (s : State) : (stepCh4 s).ch3 = s.ch3 := rfl
@[simp] theorem stepCh4_ch4 (s : State) : (stepCh4 s).ch4 = stepped4 s.regs s.ch4 := rfl
@[simp] theorem stepCh4_ctl (s : State) : (stepCh4 s).ctl = s.ctl := rfl
@[simp] theorem stepCh4_fault (s : State) : (stepCh4 s).fault = s.fault := rfl
@[simp] theorem stepCh4_pending (s : State) : (stepCh4 s).pending = s.pending := rfl
@[simp] theorem stepCh4_answers (s : State) : (stepCh4 s).answers = s.answers := rfl

@[simp] theorem downsample_config (s : State) : (downsample s).config = s.config := rfl
@[simp] theorem downsample_regs (s : State) : (downsample s).regs = s.regs := rfl
@[simp] theorem downsample_ch1 (s : State) : (downsample s).ch1 = s.ch1 := rfl
@[simp] theorem downsample_ch2 (s : State) : (downsample s).ch2 = s.ch2 := rfl
@[simp] theorem downsample_ch3 (s : State) : (downsample s).ch3 = s.ch3 := rfl
@[simp] theorem downsample_ch4 (s : State) : (downsample s).ch4 = s.ch4 := rfl
@[simp] theorem downsample_ctl (s : State) : (downsample s).ctl = downsampled s := rfl
@[simp] theorem downsample_fault (s : State) : (downsample s).fault = s.fault := rfl
@[simp] theorem downsample_pending (s : State) : (downsample s).pending = s.pending := rfl
@[simp] theorem downsample_answers (s : State) : (downsample s).answers = s.answers := rfl

/-- Two register names are the same register or do not meet: storing one leaves the others (R22). -/
theorem regGet_regSet (f : RegFile) (d : Byte) (r q : Reg) : regGet (regSet f d r) q = if q = r then d else regGet f q := by
  cases r <;> cases q <;> rfl

@[simp] theorem regGet_regSet_same (f : RegFile) (d : Byte) (r : Reg) : regGet (regSet f d r) r = d := by
  simp [regGet_regSet]

@[simp] theorem regGet_regSet_other (f : RegFile) (d : Byte) (r q : Reg) (h : q ≠ r) :
    regGet (regSet f d r) q = regGet f q := by simp [regGet_regSet, h]

/-- Register files that read the same are the same. -/
theorem regFile_ext_regGet (f g : RegFile) (h : ∀ r, regGet f r = regGet g r) : f = g := by
  cases f
  cases g
  simp only [RegFile.mk.injEq]
  exact ⟨h .nr10, h .nr11, h .nr12, h .nr13, h .nr14, h .nr20, h .nr21, h .nr22, h .nr23, h .nr24, h .nr30, h .nr31,
    h .nr32, h .nr33, h .nr34, h .nr40, h .nr41, h .nr42, h .nr43, h .nr44, h .nr50, h .nr51, h .nr52⟩

end Sys2Proof.Machine
end

