-- ==== Sys2Proof/Laws/Memory.lean ====
section
/-! SUPPORT. The wave table's laws: a read after a write, the canonical form is kept, equal reads are equal tables. -/

namespace Sys2Proof.Machine
open Sys2Proof

/-- A table whose addresses start above `a` reads 0 at `a`. -/
theorem memRead_below {m : Memory} {lo a : Nat} (h : risingFrom lo m = true) (ha : a < lo) : memRead m a = 0 := by
  induction m generalizing lo with
  | nil => rfl
  | cons c m ih =>
    obtain ⟨b, v⟩ := c
    simp only [risingFrom, Bool.and_eq_true, decide_eq_true_eq] at h
    obtain ⟨⟨⟨h1, _⟩, _⟩, h4⟩ := h
    simp only [memRead]
    rw [if_neg (by omega)]
    exact ih h4 (by omega)

/-- A rising table stays rising from any lower address. -/
theorem risingFrom_mono {m : Memory} {lo lo' : Nat} (h : risingFrom lo m = true) (hl : lo' ≤ lo) :
    risingFrom lo' m = true := by
  cases m with
  | nil => rfl
  | cons c m =>
    obtain ⟨b, v⟩ := c
    simp only [risingFrom, Bool.and_eq_true, decide_eq_true_eq] at h ⊢
    exact ⟨⟨⟨by omega, h.1.1.2⟩, h.1.2⟩, h.2⟩

/-- A write inside the bounds keeps the addresses rising and the cells not 0. -/
theorem memWrite_rising {m : Memory} {lo a : Nat} {v : Byte} (h : risingFrom lo m = true) (h1 : lo ≤ a)
    (h2 : a ≤ 0xFF3F) : risingFrom lo (memWrite m a v) = true := by
  induction m generalizing lo with
  | nil =>
    simp only [memWrite]
    split
    · rfl
    · simp_all [risingFrom]
  | cons c m ih =>
    obtain ⟨b, u⟩ := c
    have h0 := h
    simp only [risingFrom, Bool.and_eq_true, decide_eq_true_eq] at h
    obtain ⟨⟨⟨hb1, hb2⟩, hb3⟩, hb4⟩ := h
    simp only [memWrite]
    split
    · split
      · exact h0
      · simp_all [risingFrom]
    · split
      · split
        · exact risingFrom_mono hb4 (by omega)
        · subst a
          simp_all [risingFrom]
      · simp only [risingFrom, Bool.and_eq_true, decide_eq_true_eq]
        exact ⟨⟨⟨hb1, hb2⟩, hb3⟩, ih hb4 (by omega)⟩

/-- Storing a byte of the wave table keeps the canonical form. -/
theorem memWrite_wf {m : Memory} {a : Nat} {v : Byte} (h : Memory.wf m = true) (h1 : 0xFF30 ≤ a) (h2 : a ≤ 0xFF3F) :
    Memory.wf (memWrite m a v) = true := memWrite_rising h h1 h2

/-- A write leaves every other address as it was, whatever the table. -/
theorem memRead_memWrite_other {m : Memory} {a b : Nat} {v : Byte} (h : b ≠ a) :
    memRead (memWrite m a v) b = memRead m b := by
  induction m with
  | nil =>
    simp only [memWrite]
    split
    · rfl
    · simp [memRead, Ne.symm h]
  | cons c m ih =>
    obtain ⟨x, u⟩ := c
    simp only [memWrite]
    split
    · split
      · rfl
      · simp [memRead, Ne.symm h]
    · split
      · rename_i hx
        subst hx
        split <;> simp [memRead, Ne.symm h]
      · simp [memRead, ih]

/-- A read after a write to the same address gives the byte written. -/
theorem memRead_memWrite_rising {m : Memory} {lo a : Nat} {v : Byte} (h : risingFrom lo m = true) :
    memRead (memWrite m a v) a = v := by
  induction m generalizing lo with
  | nil =>
    simp only [memWrite]
    split
    · rename_i hv
      simp [memRead, hv]
    · simp [memRead]
  | cons c m ih =>
    obtain ⟨x, u⟩ := c
    have h0 := h
    simp only [risingFrom, Bool.and_eq_true, decide_eq_true_eq] at h
    obtain ⟨_, h4⟩ := h
    simp only [memWrite]
    split
    · split
      · rename_i hlt hv
        simp only [memRead]
        rw [if_neg (by omega), memRead_below h4 (by omega), hv]
      · simp [memRead]
    · split
      · rename_i hx
        subst hx
        split
        · rename_i hv
          rw [memRead_below h4 (by omega), hv]
        · simp [memRead]
      · rename_i hne
        simp only [memRead]
        rw [if_neg (fun e => hne e.symm)]
        exact ih h4

/-- The same for a table in canonical form. -/
theorem memRead_memWrite_same {m : Memory} {a : Nat} {v : Byte} (h : Memory.wf m = true) :
    memRead (memWrite m a v) a = v := memRead_memWrite_rising h

/-- Canonical tables that read the same everywhere are the same list. -/
theorem memory_ext_rising {m n : Memory} {lo lo' : Nat} (hm : risingFrom lo m = true) (hn : risingFrom lo' n = true)
    (h : ∀ a, memRead m a = memRead n a) : m = n := by
  induction m generalizing lo lo' n with
  | nil =>
    cases n with
    | nil => rfl
    | cons c n =>
      obtain ⟨b, v⟩ := c
      have := h b
      simp only [risingFrom, Bool.and_eq_true] at hn
      simp_all [memRead]
  | cons c m ih =>
    obtain ⟨b, v⟩ := c
    simp only [risingFrom, Bool.and_eq_true, decide_eq_true_eq, bne_iff_ne] at hm
    obtain ⟨⟨⟨_, _⟩, hv⟩, hm4⟩ := hm
    cases n with
    | nil =>
      have := h b
      simp_all [memRead]
    | cons c n =>
      obtain ⟨b', v'⟩ := c
      simp only [risingFrom, Bool.and_eq_true, decide_eq_true_eq, bne_iff_ne] at hn
      obtain ⟨⟨⟨_, _⟩, hv'⟩, hn4⟩ := hn
      have hb : b = b' := by
        rcases Nat.lt_trichotomy b b' with hlt | heq | hgt
        · have := h b
          simp only [memRead, if_true] at this
          rw [if_neg (by omega), memRead_below hn4 (by omega)] at this
          exact absurd this hv
        · exact heq
        · have := h b'
          simp only [memRead, if_true] at this
          rw [if_neg (by omega), memRead_below hm4 (by omega)] at this
          exact absurd this.symm hv'
      subst hb
      have hvv : v = v' := by
        have := h b
        simpa [memRead] using this
      subst hvv
      have : m = n := by
        refine ih hm4 hn4 (fun a => ?_)
        by_cases ha : b = a
        · subst ha
          rw [memRead_below hm4 (by omega), memRead_below hn4 (by omega)]
        · have := h a
          simpa [memRead, ha] using this
      rw [this]

/-- Canonical tables that read the same everywhere are equal data. -/
theorem memory_ext {m n : Memory} (hm : Memory.wf m = true) (hn : Memory.wf n = true)
    (h : ∀ a, memRead m a = memRead n a) : m = n := memory_ext_rising hm hn h

/-- The reset table is canonical. -/
theorem resetWith_wave_wf (c : Config) : Memory.wf (State.resetWith c).ch3.wave = true := rfl

/-- Storing wave byte `k` keeps the canonical form. -/
theorem storeWave_wf {k : Nat} {v : Byte} {c : Ch3} (h : Memory.wf c.wave = true) (hk : k ≤ 15) :
    Memory.wf (storeWave k v c).wave = true := by
  refine memWrite_wf h ?_ ?_ <;> simp only [waveAddr] <;> omega

/-- Storing wave byte `k` and reading byte `j`. -/
theorem waveByte_storeWave {k j : Nat} {v : Byte} {c : Ch3} (h : Memory.wf c.wave = true) :
    waveByte j (storeWave k v c) = if j = k then v else waveByte j c := by
  unfold waveByte storeWave
  split
  · rename_i hjk
    rw [hjk]
    exact memRead_memWrite_same h
  · rename_i hjk
    exact memRead_memWrite_other (by simpa [waveAddr] using hjk)

end Sys2Proof.Machine
end

