-- ==== Sys2Proof/Laws/Ops.lean ====
section
/-! SUPPORT. What each shared operation does, once: the lemmas to cite instead of unfolding the operation. -/

namespace Sys2Proof.Machine
open Sys2Proof

/-! ### Stimuli and the fault mark -/

theorem unlessFaulted_none {f : State → State} {s : State} (h : s.fault = none) : unlessFaulted f s = f s := by
  simp [unlessFaulted, h]

theorem unlessFaulted_some {f : State → State} {s : State} {r : Fault} (h : s.fault = some r) :
    unlessFaulted f s = s := by
  simp [unlessFaulted, h]

/-- A stimulus always completes, in the state its effect gives. -/
theorem stimulus_next {f : State → State} {s t : State} : stimulus f s = .next t ↔ t = unlessFaulted f s := by
  simp only [stimulus, Host.Outcome.next.injEq]
  exact eq_comm

theorem stimulus_none {f : State → State} {s : State} (h : s.fault = none) : stimulus f s = .next (f s) := by
  simp [stimulus, unlessFaulted_none h]

theorem stimulus_some {f : State → State} {s : State} {r : Fault} (h : s.fault = some r) :
    stimulus f s = .next s := by
  simp [stimulus, unlessFaulted_some h]

/-- Every instruction's meaning is a stimulus: it completes, and does nothing once the fault mark is set (R500, R506). -/
theorem exec_eq_stimulus (i : Instr) (s : State) : ∃ f : State → State, exec i s = stimulus f s := by
  cases i <;> exact ⟨_, rfl⟩

/-- A property both branches of `unlessFaulted` have. -/
theorem unlessFaulted_ind {P : State → Prop} {f : State → State} {s : State} (h1 : P s) (h2 : P (f s)) :
    P (unlessFaulted f s) := by
  unfold unlessFaulted
  split <;> assumption

theorem applyIf_ind {P : State → Prop} {b : Bool} {f : State → State} {s : State} (h1 : P s) (h2 : P (f s)) :
    P (applyIf b f s) := by
  unfold applyIf
  split <;> assumption

theorem whenTriggerBit_ind {P : State → Prop} {d : Byte} {f : State → State} {s : State} (h1 : P s) (h2 : P (f s)) :
    P (whenTriggerBit d f s) := by
  unfold whenTriggerBit
  split <;> assumption

/-! ### The bit fields as numbers -/

theorem triggerBit_eq (d : Byte) : triggerBit d = d.getLsbD 7 := rfl
theorem lengthEnable_eq (d : Byte) : lengthEnable d = d.getLsbD 6 := rfl

theorem field_toNat (d : Byte) (i n : Nat) : (d.extractLsb' i n).toNat = d.toNat / 2 ^ i % 2 ^ n := by
  simp [Nat.shiftRight_eq_div_pow]

theorem lowField_toNat (d : Byte) (n : Nat) : (d.extractLsb' 0 n).toNat = d.toNat % 2 ^ n := by
  simp

theorem sweepPeriod_eq (d : Byte) : sweepPeriod d = d.toNat / 16 % 8 := field_toNat d 4 3
theorem sweepShift_eq (d : Byte) : sweepShift d = d.toNat % 8 := lowField_toNat d 3
theorem lengthLoad6_eq (d : Byte) : lengthLoad6 d = d.toNat % 64 := lowField_toNat d 6
theorem envPeriod_eq (d : Byte) : envPeriod d = d.toNat % 8 := lowField_toNat d 3
theorem leftVolume_eq (d : Byte) : leftVolume d = d.toNat / 16 % 8 := field_toNat d 4 3
theorem rightVolume_eq (d : Byte) : rightVolume d = d.toNat % 8 := lowField_toNat d 3

theorem envVolume_eq (d : Byte) : envVolume d = d.toNat / 16 := by
  have h := field_toNat d 4 4
  have := d.isLt
  unfold envVolume
  omega

theorem noiseShift_eq (d : Byte) : noiseShift d = d.toNat / 16 := envVolume_eq d

theorem frequency_eq (lo hi : Byte) : frequency lo hi = hi.toNat % 8 * 256 + lo.toNat := by
  have h := lowField_toNat hi 3
  unfold frequency
  simp only [h]
  norm_num

/-- An 11-bit frequency is at most 2047 (R208). -/
theorem frequency_le (lo hi : Byte) : frequency lo hi ≤ 2047 := by
  have := lo.isLt
  rw [frequency_eq]
  omega

/-- The divisors of R391 are 8 and then 16 times the code. -/
theorem noiseDivisor_eq (code : BitVec 3) :
    noiseDivisor code = if code.toNat = 0 then 8 else 16 * code.toNat := by
  revert code
  decide

theorem noiseReload_eq (d : Byte) :
    noiseReload d = (if d.toNat % 8 = 0 then 8 else 16 * (d.toNat % 8)) * 2 ^ (d.toNat / 16) := by
  have h : (noiseDivisorCode d).toNat = d.toNat % 8 := lowField_toNat d 3
  simp only [noiseReload, noiseDivisor_eq, h, noiseShift_eq, Nat.shiftLeft_eq]

theorem noiseReload_pos (d : Byte) : 0 < noiseReload d := by
  rw [noiseReload_eq]
  refine Nat.mul_pos ?_ (Nat.two_pow_pos _)
  split <;> omega

theorem envelopeDac_eq (d : Byte) : envelopeDac d = decide (d &&& 0xF8 ≠ 0) := by
  rw [Bool.eq_iff_iff]
  simp [envelopeDac]

theorem sweepTarget_eq (nr10 : Byte) (n : Nat) : sweepTarget nr10 n = calcResult nr10 n := by
  simp only [sweepTarget, calcResult, sweepNegate, sweepShift_eq, Nat.shiftRight_eq_div_pow]

/-! ### Channel operations -/

theorem timerExpires_iff {t : Nat} : timerExpires t = true ↔ t ≤ 1 := by
  simp only [timerExpires, beq_iff_eq]
  omega

theorem lengthClock_length (r : Byte) (c : Chan) :
    (lengthClock r c).length = if lengthEnable r = true ∧ 0 < c.length then c.length - 1 else c.length := by
  unfold lengthClock
  by_cases h1 : lengthEnable r = true <;> by_cases h2 : 0 < c.length <;> simp [h1, h2]

theorem lengthClock_enabled (r : Byte) (c : Chan) :
    (lengthClock r c).enabled = if lengthEnable r = true ∧ c.length = 1 then false else c.enabled := by
  unfold lengthClock
  by_cases h1 : lengthEnable r = true
  · rcases Nat.lt_trichotomy c.length 1 with h | h | h
    · have h2 : c.length = 0 := by omega
      simp [h1, h2]
    · simp [h1, h]
    · have h2 : 0 < c.length := by omega
      have h3 : c.length ≠ 1 := by omega
      have h4 : c.length - 1 ≠ 0 := by omega
      simp [h1, h2, h3, h4]
  · simp [h1]

@[simp] theorem lengthClock_timer (r : Byte) (c : Chan) : (lengthClock r c).timer = c.timer := by
  unfold lengthClock
  split <;> rfl

@[simp] theorem lengthClock_amp (r : Byte) (c : Chan) : (lengthClock r c).amp = c.amp := by
  unfold lengthClock
  split <;> rfl

/-- The volume moves by at most one and stays in 0..15. -/
theorem movedVol_le {b : Bool} {v : Nat} (h : v ≤ 15) : movedVol b v ≤ 15 := by
  unfold movedVol
  split
  · split <;> omega
  · omega

/-- The four things the envelope clock can do (R205). -/
theorem envelopeClock_cases (r : Byte) (e : Envelope) :
    (envPeriod r = 0 ∧ envelopeClock r e = e) ∨
    (0 < envPeriod r ∧ 1 < e.envTimer ∧ envelopeClock r e = { e with envTimer := e.envTimer - 1 }) ∨
    (0 < envPeriod r ∧ e.envTimer ≤ 1 ∧ e.envActive = false ∧
      envelopeClock r e = { e with envTimer := envPeriod r }) ∨
    (0 < envPeriod r ∧ e.envTimer ≤ 1 ∧ e.envActive = true ∧
      envelopeClock r e = envelopeMove (envIncrease r) { e with envTimer := envPeriod r }) := by
  unfold envelopeClock
  by_cases h0 : envPeriod r = 0
  · simp [h0]
  · by_cases h1 : e.envTimer - 1 = 0
    · cases e.envActive <;> simp [h0, h1] <;> omega
    · simp [h0, h1]
      omega

/-- A frozen envelope keeps its volume and stays frozen at every clock (R206). -/
theorem envelopeClock_frozen (r : Byte) {e : Envelope} (h : e.envActive = false) :
    (envelopeClock r e).vol = e.vol ∧ (envelopeClock r e).envActive = false := by
  rcases envelopeClock_cases r e with ⟨_, h1⟩ | ⟨_, _, h1⟩ | ⟨_, _, _, h1⟩ | ⟨_, _, h2, _⟩
  · simp [h1, h]
  · simp [h1, h]
  · simp [h1, h]
  · simp [h] at h2

@[simp] theorem sweepCheck_shadow (r : Byte) (w : Sweep) : (sweepCheck r w).shadow = w.shadow := by
  unfold sweepCheck
  split <;> rfl

@[simp] theorem sweepCheck_sweepTimer (r : Byte) (w : Sweep) : (sweepCheck r w).sweepTimer = w.sweepTimer := by
  unfold sweepCheck
  split <;> rfl

@[simp] theorem sweepCheck_sweepEnabled (r : Byte) (w : Sweep) : (sweepCheck r w).sweepEnabled = w.sweepEnabled := by
  unfold sweepCheck
  split <;> rfl

/-- `calc()` only sets the overflow flag (R301). -/
theorem sweepCheck_overflow (r : Byte) (w : Sweep) :
    (sweepCheck r w).overflow = (w.overflow || decide (2047 < sweepTarget r w.shadow)) := by
  unfold sweepCheck
  split <;> rename_i h <;> simp [h]

/-- The four things the sweep clock can do (R304, R305). -/
theorem sweepClock_cases (f : RegFile) (w : Sweep) :
    (1 < w.sweepTimer ∧ sweepClock f w = ({ w with sweepTimer := w.sweepTimer - 1 }, f)) ∨
    (w.sweepTimer ≤ 1 ∧ (w.sweepEnabled = false ∨ sweepPeriod f.nr10 = 0) ∧
      sweepClock f w = ({ w with sweepTimer := sweepReload f.nr10 }, f)) ∨
    (w.sweepTimer ≤ 1 ∧ w.sweepEnabled = true ∧ 0 < sweepPeriod f.nr10 ∧
      sweepTarget f.nr10 w.shadow ≤ 2047 ∧ 0 < sweepShift f.nr10 ∧
      sweepClock f w =
        (sweepCheck f.nr10 { w with
            sweepTimer := sweepReload f.nr10
            shadow := sweepTarget f.nr10 w.shadow },
          commitRegs (sweepTarget f.nr10 w.shadow) f)) ∨
    (w.sweepTimer ≤ 1 ∧ w.sweepEnabled = true ∧ 0 < sweepPeriod f.nr10 ∧
      ¬(sweepTarget f.nr10 w.shadow ≤ 2047 ∧ 0 < sweepShift f.nr10) ∧
      sweepClock f w = (sweepCheck f.nr10 { w with sweepTimer := sweepReload f.nr10 }, f)) := by
  by_cases ht : w.sweepTimer ≤ 1
  · have h1 : w.sweepTimer - 1 = 0 := by omega
    by_cases he : w.sweepEnabled = true ∧ 0 < sweepPeriod f.nr10
    · by_cases hc : sweepTarget f.nr10 w.shadow ≤ 2047 ∧ 0 < sweepShift f.nr10
      · have hn : ¬ 2047 < sweepTarget f.nr10 w.shadow := by omega
        refine .inr (.inr (.inl ⟨ht, he.1, he.2, hc.1, hc.2, ?_⟩))
        simp [sweepClock, h1, he, sweepUpdate, hc, sweepCheck, hn]
      · refine .inr (.inr (.inr ⟨ht, he.1, he.2, hc, ?_⟩))
        simp only [sweepClock, h1, he, sweepUpdate, hc, if_true, if_false, and_self]
    · refine .inr (.inl ⟨ht, ?_, ?_⟩)
      · cases hw : w.sweepEnabled
        · exact .inl rfl
        · exact .inr (by simp only [hw, true_and] at he; omega)
      · simp only [sweepClock, h1, he, if_true, if_false]
  · have h1 : w.sweepTimer - 1 ≠ 0 := by omega
    exact .inl ⟨by omega, by simp only [sweepClock, h1, if_false]⟩

/-- The sweep clock writes no register but NR13 and NR14 (R305). -/
theorem sweepClock_regs (f : RegFile) (w : Sweep) :
    (sweepClock f w).2 = { f with nr13 := (sweepClock f w).2.nr13, nr14 := (sweepClock f w).2.nr14 } := by
  rcases sweepClock_cases f w with ⟨_, h⟩ | ⟨_, _, h⟩ | ⟨_, _, _, _, _, h⟩ | ⟨_, _, _, _, h⟩ <;> (rw [h]; try rfl)

@[simp] theorem sweepClock_nr10 (f : RegFile) (w : Sweep) : (sweepClock f w).2.nr10 = f.nr10 := by
  rw [sweepClock_regs]

@[simp] theorem sweepClock_nr11 (f : RegFile) (w : Sweep) : (sweepClock f w).2.nr11 = f.nr11 := by
  rw [sweepClock_regs]

@[simp] theorem sweepClock_nr12 (f : RegFile) (w : Sweep) : (sweepClock f w).2.nr12 = f.nr12 := by
  rw [sweepClock_regs]

@[simp] theorem sweepClock_nr20 (f : RegFile) (w : Sweep) : (sweepClock f w).2.nr20 = f.nr20 := by
  rw [sweepClock_regs]

@[simp] theorem sweepClock_nr21 (f : RegFile) (w : Sweep) : (sweepClock f w).2.nr21 = f.nr21 := by
  rw [sweepClock_regs]

@[simp] theorem sweepClock_nr22 (f : RegFile) (w : Sweep) : (sweepClock f w).2.nr22 = f.nr22 := by
  rw [sweepClock_regs]

@[simp] theorem sweepClock_nr23 (f : RegFile) (w : Sweep) : (sweepClock f w).2.nr23 = f.nr23 := by
  rw [sweepClock_regs]

@[simp] theorem sweepClock_nr24 (f : RegFile) (w : Sweep) : (sweepClock f w).2.nr24 = f.nr24 := by
  rw [sweepClock_regs]

@[simp] theorem sweepClock_nr30 (f : RegFile) (w : Sweep) : (sweepClock f w).2.nr30 = f.nr30 := by
  rw [sweepClock_regs]

@[simp] theorem sweepClock_nr31 (f : RegFile) (w : Sweep) : (sweepClock f w).2.nr31 = f.nr31 := by
  rw [sweepClock_regs]

@[simp] theorem sweepClock_nr32 (f : RegFile) (w : Sweep) : (sweepClock f w).2.nr32 = f.nr32 := by
  rw [sweepClock_regs]

@[simp] theorem sweepClock_nr33 (f : RegFile) (w : Sweep) : (sweepClock f w).2.nr33 = f.nr33 := by
  rw [sweepClock_regs]

@[simp] theorem sweepClock_nr34 (f : RegFile) (w : Sweep) : (sweepClock f w).2.nr34 = f.nr34 := by
  rw [sweepClock_regs]

@[simp] theorem sweepClock_nr40 (f : RegFile) (w : Sweep) : (sweepClock f w).2.nr40 = f.nr40 := by
  rw [sweepClock_regs]

@[simp] theorem sweepClock_nr41 (f : RegFile) (w : Sweep) : (sweepClock f w).2.nr41 = f.nr41 := by
  rw [sweepClock_regs]

@[simp] theorem sweepClock_nr42 (f : RegFile) (w : Sweep) : (sweepClock f w).2.nr42 = f.nr42 := by
  rw [sweepClock_regs]

@[simp] theorem sweepClock_nr43 (f : RegFile) (w : Sweep) : (sweepClock f w).2.nr43 = f.nr43 := by
  rw [sweepClock_regs]

@[simp] theorem sweepClock_nr44 (f : RegFile) (w : Sweep) : (sweepClock f w).2.nr44 = f.nr44 := by
  rw [sweepClock_regs]

@[simp] theorem sweepClock_nr50 (f : RegFile) (w : Sweep) : (sweepClock f w).2.nr50 = f.nr50 := by
  rw [sweepClock_regs]

@[simp] theorem sweepClock_nr51 (f : RegFile) (w : Sweep) : (sweepClock f w).2.nr51 = f.nr51 := by
  rw [sweepClock_regs]

@[simp] theorem sweepClock_nr52 (f : RegFile) (w : Sweep) : (sweepClock f w).2.nr52 = f.nr52 := by
  rw [sweepClock_regs]

/-! ### The frame sequencer -/

theorem seqExpires_iff {s : State} : seqExpires s = true ↔ s.ctl.seqCount - 1 = 0 := by simp [seqExpires]

@[simp] theorem subClocks_fault (k : Nat) (s : State) (c : Channel) : (subClocks k s c).fault = s.fault := by
  cases c <;> simp only [subClocks, applyIf] <;> (repeat' split) <;> simp

/-- In range, a tick is the sub-clocks of the channel (R213, R214). -/
theorem tickChannel_inRange {c : Channel} {k : Nat} {s : State} (hf : s.fault = none) (hk : k ≤ 7) :
    tickChannel c k s = subClocks k s c := by
  have h : ¬ 7 < k := by omega
  simp only [tickChannel, unlessFaulted_none hf, h, if_false]

/-- Out of range, a tick records the contract violation and does nothing else (R213, R500). -/
theorem tickChannel_outOfRange {c : Channel} {k : Nat} {s : State} (hf : s.fault = none) (hk : 7 < k) :
    tickChannel c k s = raiseFault (.tickStepOutOfRange k) s := by
  simp only [tickChannel, unlessFaulted_none hf, hk, if_true]

theorem tickChannel_faulted {c : Channel} {k : Nat} {s : State} {r : Fault} (hf : s.fault = some r) :
    tickChannel c k s = s := by
  simp only [tickChannel, unlessFaulted_some hf]

theorem tickAll_inRange {k : Nat} {s : State} (hf : s.fault = none) (hk : k ≤ 7) :
    tickAll k s = subClocks k (subClocks k (subClocks k (subClocks k s .ch1) .ch2) .ch3) .ch4 := by
  simp only [tickAll]
  rw [tickChannel_inRange hf hk, tickChannel_inRange (c := .ch2) (by simpa using hf) hk,
    tickChannel_inRange (c := .ch3) (by simpa using hf) hk, tickChannel_inRange (c := .ch4) (by simpa using hf) hk]

theorem tickAll_outOfRange {k : Nat} {s : State} (hf : s.fault = none) (hk : 7 < k) :
    tickAll k s = raiseFault (.tickStepOutOfRange k) s := by
  simp only [tickAll, tickChannel_outOfRange hf hk]
  repeat rw [tickChannel_faulted (r := .tickStepOutOfRange k) rfl]

/-- What a tick of step `k` leaves (R214): each channel's counters, and the registers a sweep commit writes. -/
theorem tickAll_spec {k : Nat} {s : State} (hf : s.fault = none) (hk : k ≤ 7) :
    tickAll k s = { s with
      regs := if k = 2 ∨ k = 6 then (sweepClock s.regs s.ch1.toSweep).2 else s.regs
      ch1 := { s.ch1 with
        toChan := if k % 2 = 0 then lengthClock s.regs.nr14 s.ch1.toChan else s.ch1.toChan
        toSweep := if k = 2 ∨ k = 6 then (sweepClock s.regs s.ch1.toSweep).1 else s.ch1.toSweep
        toEnvelope := if k = 7 then envelopeClock s.regs.nr12 s.ch1.toEnvelope else s.ch1.toEnvelope }
      ch2 := { s.ch2 with
        toChan := if k % 2 = 0 then lengthClock s.regs.nr24 s.ch2.toChan else s.ch2.toChan
        toEnvelope := if k = 7 then envelopeClock s.regs.nr22 s.ch2.toEnvelope else s.ch2.toEnvelope }
      ch3 := { s.ch3 with
        toChan := if k % 2 = 0 then lengthClock s.regs.nr34 s.ch3.toChan else s.ch3.toChan }
      ch4 := { s.ch4 with
        toChan := if k % 2 = 0 then lengthClock s.regs.nr44 s.ch4.toChan else s.ch4.toChan
        toEnvelope := if k = 7 then envelopeClock s.regs.nr42 s.ch4.toEnvelope else s.ch4.toEnvelope } } := by
  rw [tickAll_inRange hf hk]
  interval_cases k <;>
    simp [subClocks, applyIf, lengthTick1, lengthTick2, lengthTick3, lengthTick4, sweepTick, envelopeTick1,
      envelopeTick2, envelopeTick4]

/-- Without an expiry the sequencer only counts (R424). -/
theorem sequencerPhase_counting {s : State} (h : seqExpires s = false) : sequencerPhase s = countSequencer s := by
  have h1 : ¬ s.ctl.seqCount - 1 = 0 := by simpa [seqExpires] using h
  simp only [sequencerPhase, h1, if_false]

/-- At an expiry with a step in range, every channel is ticked, then the step advances and the countdown reloads
(R420, R422). -/
theorem sequencerPhase_expiring {s : State} (hf : s.fault = none) (hk : s.ctl.seqStep ≤ 7) (h : seqExpires s = true) :
    sequencerPhase s = advanceSequencer (tickAll s.ctl.seqStep (countSequencer s)) := by
  have h1 : s.ctl.seqCount - 1 = 0 := seqExpires_iff.mp h
  have h2 : (tickAll s.ctl.seqStep (countSequencer s)).fault = none := by
    rw [tickAll_spec (by simpa using hf) hk]
    exact hf
  simp only [sequencerPhase, h1, if_true, unlessFaulted_none h2]

/-- What the sequencer part of a CYCLE leaves, from a state in range (R420 part 1). -/
theorem sequencerPhase_spec {s : State} (hf : s.fault = none) (hk : s.ctl.seqStep ≤ 7) :
    sequencerPhase s = { s with
      regs := if seqExpires s = true ∧ (s.ctl.seqStep = 2 ∨ s.ctl.seqStep = 6)
        then (sweepClock s.regs s.ch1.toSweep).2 else s.regs
      ch1 := { s.ch1 with
        toChan := if seqExpires s = true ∧ s.ctl.seqStep % 2 = 0
          then lengthClock s.regs.nr14 s.ch1.toChan else s.ch1.toChan
        toSweep := if seqExpires s = true ∧ (s.ctl.seqStep = 2 ∨ s.ctl.seqStep = 6)
          then (sweepClock s.regs s.ch1.toSweep).1 else s.ch1.toSweep
        toEnvelope := if seqExpires s = true ∧ s.ctl.seqStep = 7
          then envelopeClock s.regs.nr12 s.ch1.toEnvelope else s.ch1.toEnvelope }
      ch2 := { s.ch2 with
        toChan := if seqExpires s = true ∧ s.ctl.seqStep % 2 = 0
          then lengthClock s.regs.nr24 s.ch2.toChan else s.ch2.toChan
        toEnvelope := if seqExpires s = true ∧ s.ctl.seqStep = 7
          then envelopeClock s.regs.nr22 s.ch2.toEnvelope else s.ch2.toEnvelope }
      ch3 := { s.ch3 with
        toChan := if seqExpires s = true ∧ s.ctl.seqStep % 2 = 0
          then lengthClock s.regs.nr34 s.ch3.toChan else s.ch3.toChan }
      ch4 := { s.ch4 with
        toChan := if seqExpires s = true ∧ s.ctl.seqStep % 2 = 0
          then lengthClock s.regs.nr44 s.ch4.toChan else s.ch4.toChan
        toEnvelope := if seqExpires s = true ∧ s.ctl.seqStep = 7
          then envelopeClock s.regs.nr42 s.ch4.toEnvelope else s.ch4.toEnvelope }
      ctl := { s.ctl with
        seqStep := if seqExpires s = true then (s.ctl.seqStep + 1) % 8 else s.ctl.seqStep
        seqCount := if seqExpires s = true then seqReload s.config else s.ctl.seqCount - 1 } } := by
  cases h : seqExpires s
  · rw [sequencerPhase_counting h]
    simp [countSequencer]
  · rw [sequencerPhase_expiring hf hk h, tickAll_spec (by simpa using hf) hk]
    simp [advanceSequencer, countSequencer]

/-- A CYCLE whose sequencer part leaves no fault runs all three parts (R420). -/
theorem masterCycle_inRange {s : State} (hf : s.fault = none) (hk : s.ctl.seqStep ≤ 7) :
    masterCycle s = downsample (stepAll (sequencerPhase s)) := by
  have h : (sequencerPhase s).fault = none := by
    rw [sequencerPhase_spec hf hk]
    exact hf
  simp only [masterCycle, unlessFaulted_none h]

/-- A CYCLE answers a next state in which no contract violation stands, from a state in range. -/
theorem execCycle_inRange {s : State} (hf : s.fault = none) (hk : s.ctl.seqStep ≤ 7) :
    execCycle s = .next (downsample (stepAll (sequencerPhase s))) := by
  rw [execCycle, stimulus_none hf, masterCycle_inRange hf hk]

/-! ### Channel steps -/

theorem stepped1_counting {cfg : Config} {f : RegFile} {c : Ch1} (h : 1 < c.timer) :
    stepped1 cfg f c = { c with timer := c.timer - 1 } := by
  have h1 : ¬ timerExpires c.timer = true := by rw [timerExpires_iff]; omega
  simp only [stepped1, h1, Bool.false_eq_true, if_false]

theorem stepped1_expiring {cfg : Config} {f : RegFile} {c : Ch1} (h : c.timer ≤ 1) :
    stepped1 cfg f c = { c with
      timer := pulseReload (freq1 f)
      phase := nextPhase c.phase
      amp := pulseAmp cfg f.nr11 (nextPhase c.phase) c.vol } := by
  simp only [stepped1, timerExpires_iff.mpr h, if_true]

theorem stepped2_counting {cfg : Config} {f : RegFile} {c : Ch2} (h : 1 < c.timer) :
    stepped2 cfg f c = { c with timer := c.timer - 1 } := by
  have h1 : ¬ timerExpires c.timer = true := by rw [timerExpires_iff]; omega
  simp only [stepped2, h1, Bool.false_eq_true, if_false]

theorem stepped2_expiring {cfg : Config} {f : RegFile} {c : Ch2} (h : c.timer ≤ 1) :
    stepped2 cfg f c = { c with
      timer := pulseReload (freq2 f)
      phase := nextPhase c.phase
      amp := pulseAmp cfg f.nr21 (nextPhase c.phase) c.vol } := by
  simp only [stepped2, timerExpires_iff.mpr h, if_true]

theorem stepped3_counting {cfg : Config} {f : RegFile} {c : Ch3} (h : 1 < c.timer) :
    stepped3 cfg f c =
      { c with accessAge := ageAccess cfg.waveAccessWindow c.accessAge, timer := c.timer - 1 } := by
  have h1 : ¬ timerExpires c.timer = true := by rw [timerExpires_iff]; omega
  simp only [stepped3, h1, Bool.false_eq_true, if_false]

theorem stepped3_expiring {cfg : Config} {f : RegFile} {c : Ch3} (h : c.timer ≤ 1) :
    stepped3 cfg f c = { c with
      accessAge := ageAccess cfg.waveAccessWindow c.accessAge
      timer := waveReload (freq3 f)
      pos := nextPos c.pos
      amp := waveSample c (nextPos c.pos) >>> waveShift (volumeCode f.nr32) } := by
  simp only [stepped3, timerExpires_iff.mpr h, if_true]

theorem stepped4_counting {f : RegFile} {c : Ch4} (h : 1 < c.timer) :
    stepped4 f c = { c with timer := c.timer - 1 } := by
  have h1 : ¬ timerExpires c.timer = true := by rw [timerExpires_iff]; omega
  simp only [stepped4, h1, Bool.false_eq_true, if_false]

theorem stepped4_expiring {f : RegFile} {c : Ch4} (h : c.timer ≤ 1) :
    stepped4 f c = { c with
      timer := noiseReload f.nr43
      lfsr := lfsrNext (noiseNarrow f.nr43) c.lfsr
      amp := noiseAmp (lfsrNext (noiseNarrow f.nr43) c.lfsr) c.vol } := by
  simp only [stepped4, timerExpires_iff.mpr h, if_true]

/-- The channel steps see the registers and the configuration as they were: none writes them (R421, R426). -/
theorem stepAll_spec (s : State) :
    stepAll s = { s with
      ch1 := stepped1 s.config s.regs s.ch1
      ch2 := stepped2 s.config s.regs s.ch2
      ch3 := stepped3 s.config s.regs s.ch3
      ch4 := stepped4 s.regs s.ch4 } := rfl

@[simp] theorem stepped1_enabled (cfg : Config) (f : RegFile) (c : Ch1) : (stepped1 cfg f c).enabled = c.enabled := by
  unfold stepped1
  split <;> rfl

@[simp] theorem stepped1_length (cfg : Config) (f : RegFile) (c : Ch1) : (stepped1 cfg f c).length = c.length := by
  unfold stepped1
  split <;> rfl

@[simp] theorem stepped1_vol (cfg : Config) (f : RegFile) (c : Ch1) : (stepped1 cfg f c).vol = c.vol := by
  unfold stepped1
  split <;> rfl

@[simp] theorem stepped1_envTimer (cfg : Config) (f : RegFile) (c : Ch1) : (stepped1 cfg f c).envTimer = c.envTimer := by
  unfold stepped1
  split <;> rfl

@[simp] theorem stepped1_envActive (cfg : Config) (f : RegFile) (c : Ch1) : (stepped1 cfg f c).envActive = c.envActive := by
  unfold stepped1
  split <;> rfl

@[simp] theorem stepped1_shadow (cfg : Config) (f : RegFile) (c : Ch1) : (stepped1 cfg f c).shadow = c.shadow := by
  unfold stepped1
  split <;> rfl

@[simp] theorem stepped1_sweepTimer (cfg : Config) (f : RegFile) (c : Ch1) : (stepped1 cfg f c).sweepTimer = c.sweepTimer := by
  unfold stepped1
  split <;> rfl

@[simp] theorem stepped1_sweepEnabled (cfg : Config) (f : RegFile) (c : Ch1) : (stepped1 cfg f c).sweepEnabled = c.sweepEnabled := by
  unfold stepped1
  split <;> rfl

@[simp] theorem stepped1_overflow (cfg : Config) (f : RegFile) (c : Ch1) : (stepped1 cfg f c).overflow = c.overflow := by
  unfold stepped1
  split <;> rfl

@[simp] theorem stepped1_toEnvelope (cfg : Config) (f : RegFile) (c : Ch1) :
    (stepped1 cfg f c).toEnvelope = c.toEnvelope := by
  unfold stepped1
  split <;> rfl

@[simp] theorem stepped1_toSweep (cfg : Config) (f : RegFile) (c : Ch1) :
    (stepped1 cfg f c).toSweep = c.toSweep := by
  unfold stepped1
  split <;> rfl

@[simp] theorem stepped2_enabled (cfg : Config) (f : RegFile) (c : Ch2) : (stepped2 cfg f c).enabled = c.enabled := by
  unfold stepped2
  split <;> rfl

@[simp] theorem stepped2_length (cfg : Config) (f : RegFile) (c : Ch2) : (stepped2 cfg f c).length = c.length := by
  unfold stepped2
  split <;> rfl

@[simp] theorem stepped2_vol (cfg : Config) (f : RegFile) (c : Ch2) : (stepped2 cfg f c).vol = c.vol := by
  unfold stepped2
  split <;> rfl

@[simp] theorem stepped2_envTimer (cfg : Config) (f : RegFile) (c : Ch2) : (stepped2 cfg f c).envTimer = c.envTimer := by
  unfold stepped2
  split <;> rfl

@[simp] theorem stepped2_envActive (cfg : Config) (f : RegFile) (c : Ch2) : (stepped2 cfg f c).envActive = c.envActive := by
  unfold stepped2
  split <;> rfl

@[simp] theorem stepped2_toEnvelope (cfg : Config) (f : RegFile) (c : Ch2) :
    (stepped2 cfg f c).toEnvelope = c.toEnvelope := by
  unfold stepped2
  split <;> rfl

@[simp] theorem stepped3_enabled (cfg : Config) (f : RegFile) (c : Ch3) : (stepped3 cfg f c).enabled = c.enabled := by
  unfold stepped3
  split <;> rfl

@[simp] theorem stepped3_length (cfg : Config) (f : RegFile) (c : Ch3) : (stepped3 cfg f c).length = c.length := by
  unfold stepped3
  split <;> rfl

@[simp] theorem stepped3_wave (cfg : Config) (f : RegFile) (c : Ch3) : (stepped3 cfg f c).wave = c.wave := by
  unfold stepped3
  split <;> rfl

@[simp] theorem stepped4_enabled (f : RegFile) (c : Ch4) : (stepped4 f c).enabled = c.enabled := by
  unfold stepped4
  split <;> rfl

@[simp] theorem stepped4_length (f : RegFile) (c : Ch4) : (stepped4 f c).length = c.length := by
  unfold stepped4
  split <;> rfl

@[simp] theorem stepped4_vol (f : RegFile) (c : Ch4) : (stepped4 f c).vol = c.vol := by
  unfold stepped4
  split <;> rfl

@[simp] theorem stepped4_envTimer (f : RegFile) (c : Ch4) : (stepped4 f c).envTimer = c.envTimer := by
  unfold stepped4
  split <;> rfl

@[simp] theorem stepped4_envActive (f : RegFile) (c : Ch4) : (stepped4 f c).envActive = c.envActive := by
  unfold stepped4
  split <;> rfl

@[simp] theorem stepped4_toEnvelope (f : RegFile) (c : Ch4) :
    (stepped4 f c).toEnvelope = c.toEnvelope := by
  unfold stepped4
  split <;> rfl

/-! ### The mixer and the downsampler -/

theorem sampleExpires_iff {s : State} : sampleExpires s = true ↔ s.ctl.sampleCount - 1 = 0 := by simp [sampleExpires]

theorem downsample_counting {s : State} (h : sampleExpires s = false) :
    downsample s = { s with ctl := { s.ctl with sampleCount := s.ctl.sampleCount - 1 } } := by
  have h1 : ¬ s.ctl.sampleCount - 1 = 0 := by simpa [sampleExpires] using h
  simp only [downsample, downsampled, h1, if_false]

theorem downsample_expiring {s : State} (h : sampleExpires s = true) :
    downsample s = { s with
      ctl := emitPair s.config.bufferCapacity (mixLeft s) (mixRight s)
        { s.ctl with sampleCount := sampleReload s.config } } := by
  have h1 : s.ctl.sampleCount - 1 = 0 := sampleExpires_iff.mp h
  simp only [downsample, downsampled, h1, if_true]

theorem emitPair_filling {n : Nat} {l r : Byte} {c : Controller} (h : c.buffer.length + 2 = n) :
    emitPair n l r c = { c with buffer := [], out := c.out ++ [c.buffer ++ [l, r]] } := by
  simp [emitPair, h]

theorem emitPair_appending {n : Nat} {l r : Byte} {c : Controller} (h : c.buffer.length + 2 ≠ n) :
    emitPair n l r c = { c with buffer := c.buffer ++ [l, r] } := by
  simp [emitPair, h]

@[simp] theorem emitPair_seqStep (n : Nat) (l r : Byte) (c : Controller) : (emitPair n l r c).seqStep = c.seqStep := by
  unfold emitPair
  split <;> rfl

@[simp] theorem emitPair_seqCount (n : Nat) (l r : Byte) (c : Controller) :
    (emitPair n l r c).seqCount = c.seqCount := by
  unfold emitPair
  split <;> rfl

@[simp] theorem emitPair_sampleCount (n : Nat) (l r : Byte) (c : Controller) :
    (emitPair n l r c).sampleCount = c.sampleCount := by
  unfold emitPair
  split <;> rfl

/-- The mixer reads the registers, the configuration and the output amplitudes, and nothing else (R427). -/
theorem mixLeft_congr {s t : State} (hr : s.regs = t.regs) (hc : s.config = t.config)
    (ha : ∀ c, outputAmplitude s c = outputAmplitude t c) : mixLeft s = mixLeft t := by
  simp only [mixLeft, sideSum, hr, hc, ha]

theorem mixRight_congr {s t : State} (hr : s.regs = t.regs) (hc : s.config = t.config)
    (ha : ∀ c, outputAmplitude s c = outputAmplitude t c) : mixRight s = mixRight t := by
  simp only [mixRight, sideSum, hr, hc, ha]

/-! ### The wave table -/

theorem readWave_direct {k : Nat} {s : State} (h : waveAccessDirect s = true) :
    readWave k s = giveAnswer (.byte (waveByte k s.ch3)) s := by
  simp only [readWave, h, if_true]

theorem readWave_arbitrated {k : Nat} {s : State} (h : waveAccessDirect s = false) :
    readWave k s = giveAnswer (.byte (arbitratedValue s)) { s with ch3 := { s.ch3 with accessAge := 0 } } := by
  simp [readWave, h]

/-- A wave WRITE stores into one byte of the table or into none; it writes nothing else (R342, R344). -/
theorem writeWave_cases (k : Nat) (d : Byte) (s : State) :
    (∃ j, waveWriteIndex k s = some j ∧ writeWave k d s = { s with ch3 := storeWave j d s.ch3 }) ∨
    (waveWriteIndex k s = none ∧ writeWave k d s = s) := by
  unfold writeWave
  cases h : waveWriteIndex k s with
  | some j => exact .inl ⟨j, rfl, rfl⟩
  | none => exact .inr ⟨rfl, rfl⟩

theorem waveAccessDirect_iff {s : State} :
    waveAccessDirect s = true ↔ s.config.waveRamAccess = .direct ∨ isEnabled s .ch3 = false := by
  simp [waveAccessDirect]

/-! ### Stepping and running -/

theorem takeStimulus_cons {s : State} {w : StimulusWord} {rest : List StimulusWord} (h : s.pending = w :: rest) :
    takeStimulus s = some (w, { s with pending := rest }) := by
  simp only [takeStimulus, h]

theorem takeStimulus_nil {s : State} (h : s.pending = []) : takeStimulus s = none := by
  simp only [takeStimulus, h]

/-- Taking a word just placed gives it, and the state it was placed in. -/
theorem takeStimulus_placeNext (w : StimulusWord) (s : State) : takeStimulus (placeNext w s) = some (w, s) := rfl

@[simp] theorem runAll_nil (s : State) : runAll [] s = .next s := rfl

theorem runAll_cons {i : Instr} {is : List Instr} {s t : State} (h : exec i s = .next t) :
    runAll (i :: is) s = runAll is t := by
  simp only [runAll, h]

theorem runAll_append {is js : List Instr} {s t : State} (h : runAll is s = .next t) :
    runAll (is ++ js) s = runAll js t := by
  induction is generalizing s with
  | nil =>
    simp only [runAll_nil, Host.Outcome.next.injEq] at h
    simp [h]
  | cons i is ih =>
    simp only [List.cons_append, runAll] at h ⊢
    cases hi : exec i s with
    | next u =>
      simp only [hi] at h ⊢
      exact ih h
    | fault r => simp [hi] at h
    | refused r => simp [hi] at h

/-- A property CYCLE keeps, indexed by the number of CYCLEs run, holds after any number of them. -/
theorem runAll_cycles {P : Nat → State → Prop} (hstep : ∀ n s, P n s → ∃ t, exec .cycle s = .next t ∧ P (n + 1) t)
    (n k : Nat) {s : State} (h : P k s) : ∃ t, runAll (List.replicate n .cycle) s = .next t ∧ P (k + n) t := by
  induction n generalizing k s with
  | zero => exact ⟨s, rfl, h⟩
  | succ n ih =>
    obtain ⟨u, hu, hp⟩ := hstep k s h
    obtain ⟨t, ht, hq⟩ := ih (k + 1) hp
    refine ⟨t, ?_, ?_⟩
    · rw [List.replicate_succ, runAll_cons hu, ht]
    · rwa [show k + (n + 1) = k + 1 + n from by omega]

end Sys2Proof.Machine
end

