-- ==== Sys2Proof/Laws/PerInstr.lean ====
section
/-! SUPPORT. Per instruction: its word is none of the reserved words of R113. -/

/-- The word of the instruction has an op other than 0b11; a READ has D = 0; a CYCLE has A = 0 and D = 0 (R113). -/
def Sys2Proof.Laws.Unreserved.Statement (i : Sys2Proof.Instr) : Prop :=
  Sys2Proof.opField (Sys2Proof.encode i) ≠ 3 ∧
  (Sys2Proof.opField (Sys2Proof.encode i) = 0 → Sys2Proof.dataField (Sys2Proof.encode i) = 0) ∧
  (Sys2Proof.opField (Sys2Proof.encode i) = 2 →
    Sys2Proof.addrField (Sys2Proof.encode i) = 0 ∧ Sys2Proof.dataField (Sys2Proof.encode i) = 0)

/-- The word of a READ is not reserved. -/
theorem Sys2Proof.Laws.Unreserved.of_read {i : Sys2Proof.Instr} {a : Sys2Proof.Addr}
    (h : Sys2Proof.encode i = Sys2Proof.packWord 0 a 0) : Sys2Proof.Laws.Unreserved.Statement i := by
  unfold Sys2Proof.Laws.Unreserved.Statement
  rw [h, Sys2Proof.opField_packWord, Sys2Proof.dataField_packWord]
  exact ⟨by decide, fun _ => rfl, fun h0 => absurd h0 (by decide)⟩

/-- The word of a WRITE is not reserved. -/
theorem Sys2Proof.Laws.Unreserved.of_write {i : Sys2Proof.Instr} {a : Sys2Proof.Addr} {d : Sys2Proof.Byte}
    (h : Sys2Proof.encode i = Sys2Proof.packWord 1 a d) : Sys2Proof.Laws.Unreserved.Statement i := by
  unfold Sys2Proof.Laws.Unreserved.Statement
  rw [h, Sys2Proof.opField_packWord]
  exact ⟨by decide, fun h0 => absurd h0 (by decide), fun h0 => absurd h0 (by decide)⟩

theorem Sys2Proof.Laws.Unreserved.rdNr10 : Sys2Proof.Laws.Unreserved.Statement .rdNr10 :=
  Sys2Proof.Laws.Unreserved.of_read rfl

theorem Sys2Proof.Laws.Unreserved.wrNr10 (d : Sys2Proof.Byte) : Sys2Proof.Laws.Unreserved.Statement (.wrNr10 d) :=
  Sys2Proof.Laws.Unreserved.of_write rfl

theorem Sys2Proof.Laws.Unreserved.rdNr11 : Sys2Proof.Laws.Unreserved.Statement .rdNr11 :=
  Sys2Proof.Laws.Unreserved.of_read rfl

theorem Sys2Proof.Laws.Unreserved.wrNr11 (d : Sys2Proof.Byte) : Sys2Proof.Laws.Unreserved.Statement (.wrNr11 d) :=
  Sys2Proof.Laws.Unreserved.of_write rfl

theorem Sys2Proof.Laws.Unreserved.rdNr12 : Sys2Proof.Laws.Unreserved.Statement .rdNr12 :=
  Sys2Proof.Laws.Unreserved.of_read rfl

theorem Sys2Proof.Laws.Unreserved.wrNr12 (d : Sys2Proof.Byte) : Sys2Proof.Laws.Unreserved.Statement (.wrNr12 d) :=
  Sys2Proof.Laws.Unreserved.of_write rfl

theorem Sys2Proof.Laws.Unreserved.rdNr13 : Sys2Proof.Laws.Unreserved.Statement .rdNr13 :=
  Sys2Proof.Laws.Unreserved.of_read rfl

theorem Sys2Proof.Laws.Unreserved.wrNr13 (d : Sys2Proof.Byte) : Sys2Proof.Laws.Unreserved.Statement (.wrNr13 d) :=
  Sys2Proof.Laws.Unreserved.of_write rfl

theorem Sys2Proof.Laws.Unreserved.rdNr14 : Sys2Proof.Laws.Unreserved.Statement .rdNr14 :=
  Sys2Proof.Laws.Unreserved.of_read rfl

theorem Sys2Proof.Laws.Unreserved.wrNr14 (d : Sys2Proof.Byte) : Sys2Proof.Laws.Unreserved.Statement (.wrNr14 d) :=
  Sys2Proof.Laws.Unreserved.of_write rfl

theorem Sys2Proof.Laws.Unreserved.rdNr20 : Sys2Proof.Laws.Unreserved.Statement .rdNr20 :=
  Sys2Proof.Laws.Unreserved.of_read rfl

theorem Sys2Proof.Laws.Unreserved.wrNr20 (d : Sys2Proof.Byte) : Sys2Proof.Laws.Unreserved.Statement (.wrNr20 d) :=
  Sys2Proof.Laws.Unreserved.of_write rfl

theorem Sys2Proof.Laws.Unreserved.rdNr21 : Sys2Proof.Laws.Unreserved.Statement .rdNr21 :=
  Sys2Proof.Laws.Unreserved.of_read rfl

theorem Sys2Proof.Laws.Unreserved.wrNr21 (d : Sys2Proof.Byte) : Sys2Proof.Laws.Unreserved.Statement (.wrNr21 d) :=
  Sys2Proof.Laws.Unreserved.of_write rfl

theorem Sys2Proof.Laws.Unreserved.rdNr22 : Sys2Proof.Laws.Unreserved.Statement .rdNr22 :=
  Sys2Proof.Laws.Unreserved.of_read rfl

theorem Sys2Proof.Laws.Unreserved.wrNr22 (d : Sys2Proof.Byte) : Sys2Proof.Laws.Unreserved.Statement (.wrNr22 d) :=
  Sys2Proof.Laws.Unreserved.of_write rfl

theorem Sys2Proof.Laws.Unreserved.rdNr23 : Sys2Proof.Laws.Unreserved.Statement .rdNr23 :=
  Sys2Proof.Laws.Unreserved.of_read rfl

theorem Sys2Proof.Laws.Unreserved.wrNr23 (d : Sys2Proof.Byte) : Sys2Proof.Laws.Unreserved.Statement (.wrNr23 d) :=
  Sys2Proof.Laws.Unreserved.of_write rfl

theorem Sys2Proof.Laws.Unreserved.rdNr24 : Sys2Proof.Laws.Unreserved.Statement .rdNr24 :=
  Sys2Proof.Laws.Unreserved.of_read rfl

theorem Sys2Proof.Laws.Unreserved.wrNr24 (d : Sys2Proof.Byte) : Sys2Proof.Laws.Unreserved.Statement (.wrNr24 d) :=
  Sys2Proof.Laws.Unreserved.of_write rfl

theorem Sys2Proof.Laws.Unreserved.rdNr30 : Sys2Proof.Laws.Unreserved.Statement .rdNr30 :=
  Sys2Proof.Laws.Unreserved.of_read rfl

theorem Sys2Proof.Laws.Unreserved.wrNr30 (d : Sys2Proof.Byte) : Sys2Proof.Laws.Unreserved.Statement (.wrNr30 d) :=
  Sys2Proof.Laws.Unreserved.of_write rfl

theorem Sys2Proof.Laws.Unreserved.rdNr31 : Sys2Proof.Laws.Unreserved.Statement .rdNr31 :=
  Sys2Proof.Laws.Unreserved.of_read rfl

theorem Sys2Proof.Laws.Unreserved.wrNr31 (d : Sys2Proof.Byte) : Sys2Proof.Laws.Unreserved.Statement (.wrNr31 d) :=
  Sys2Proof.Laws.Unreserved.of_write rfl

theorem Sys2Proof.Laws.Unreserved.rdNr32 : Sys2Proof.Laws.Unreserved.Statement .rdNr32 :=
  Sys2Proof.Laws.Unreserved.of_read rfl

theorem Sys2Proof.Laws.Unreserved.wrNr32 (d : Sys2Proof.Byte) : Sys2Proof.Laws.Unreserved.Statement (.wrNr32 d) :=
  Sys2Proof.Laws.Unreserved.of_write rfl

theorem Sys2Proof.Laws.Unreserved.rdNr33 : Sys2Proof.Laws.Unreserved.Statement .rdNr33 :=
  Sys2Proof.Laws.Unreserved.of_read rfl

theorem Sys2Proof.Laws.Unreserved.wrNr33 (d : Sys2Proof.Byte) : Sys2Proof.Laws.Unreserved.Statement (.wrNr33 d) :=
  Sys2Proof.Laws.Unreserved.of_write rfl

theorem Sys2Proof.Laws.Unreserved.rdNr34 : Sys2Proof.Laws.Unreserved.Statement .rdNr34 :=
  Sys2Proof.Laws.Unreserved.of_read rfl

theorem Sys2Proof.Laws.Unreserved.wrNr34 (d : Sys2Proof.Byte) : Sys2Proof.Laws.Unreserved.Statement (.wrNr34 d) :=
  Sys2Proof.Laws.Unreserved.of_write rfl

theorem Sys2Proof.Laws.Unreserved.rdNr40 : Sys2Proof.Laws.Unreserved.Statement .rdNr40 :=
  Sys2Proof.Laws.Unreserved.of_read rfl

theorem Sys2Proof.Laws.Unreserved.wrNr40 (d : Sys2Proof.Byte) : Sys2Proof.Laws.Unreserved.Statement (.wrNr40 d) :=
  Sys2Proof.Laws.Unreserved.of_write rfl

theorem Sys2Proof.Laws.Unreserved.rdNr41 : Sys2Proof.Laws.Unreserved.Statement .rdNr41 :=
  Sys2Proof.Laws.Unreserved.of_read rfl

theorem Sys2Proof.Laws.Unreserved.wrNr41 (d : Sys2Proof.Byte) : Sys2Proof.Laws.Unreserved.Statement (.wrNr41 d) :=
  Sys2Proof.Laws.Unreserved.of_write rfl

theorem Sys2Proof.Laws.Unreserved.rdNr42 : Sys2Proof.Laws.Unreserved.Statement .rdNr42 :=
  Sys2Proof.Laws.Unreserved.of_read rfl

theorem Sys2Proof.Laws.Unreserved.wrNr42 (d : Sys2Proof.Byte) : Sys2Proof.Laws.Unreserved.Statement (.wrNr42 d) :=
  Sys2Proof.Laws.Unreserved.of_write rfl

theorem Sys2Proof.Laws.Unreserved.rdNr43 : Sys2Proof.Laws.Unreserved.Statement .rdNr43 :=
  Sys2Proof.Laws.Unreserved.of_read rfl

theorem Sys2Proof.Laws.Unreserved.wrNr43 (d : Sys2Proof.Byte) : Sys2Proof.Laws.Unreserved.Statement (.wrNr43 d) :=
  Sys2Proof.Laws.Unreserved.of_write rfl

theorem Sys2Proof.Laws.Unreserved.rdNr44 : Sys2Proof.Laws.Unreserved.Statement .rdNr44 :=
  Sys2Proof.Laws.Unreserved.of_read rfl

theorem Sys2Proof.Laws.Unreserved.wrNr44 (d : Sys2Proof.Byte) : Sys2Proof.Laws.Unreserved.Statement (.wrNr44 d) :=
  Sys2Proof.Laws.Unreserved.of_write rfl

theorem Sys2Proof.Laws.Unreserved.rdNr50 : Sys2Proof.Laws.Unreserved.Statement .rdNr50 :=
  Sys2Proof.Laws.Unreserved.of_read rfl

theorem Sys2Proof.Laws.Unreserved.wrNr50 (d : Sys2Proof.Byte) : Sys2Proof.Laws.Unreserved.Statement (.wrNr50 d) :=
  Sys2Proof.Laws.Unreserved.of_write rfl

theorem Sys2Proof.Laws.Unreserved.rdNr51 : Sys2Proof.Laws.Unreserved.Statement .rdNr51 :=
  Sys2Proof.Laws.Unreserved.of_read rfl

theorem Sys2Proof.Laws.Unreserved.wrNr51 (d : Sys2Proof.Byte) : Sys2Proof.Laws.Unreserved.Statement (.wrNr51 d) :=
  Sys2Proof.Laws.Unreserved.of_write rfl

theorem Sys2Proof.Laws.Unreserved.rdNr52 : Sys2Proof.Laws.Unreserved.Statement .rdNr52 :=
  Sys2Proof.Laws.Unreserved.of_read rfl

theorem Sys2Proof.Laws.Unreserved.wrNr52 (d : Sys2Proof.Byte) : Sys2Proof.Laws.Unreserved.Statement (.wrNr52 d) :=
  Sys2Proof.Laws.Unreserved.of_write rfl

theorem Sys2Proof.Laws.Unreserved.rdUnused27 : Sys2Proof.Laws.Unreserved.Statement .rdUnused27 :=
  Sys2Proof.Laws.Unreserved.of_read rfl

theorem Sys2Proof.Laws.Unreserved.rdUnused28 (k : BitVec 3) : Sys2Proof.Laws.Unreserved.Statement (.rdUnused28 k) :=
  Sys2Proof.Laws.Unreserved.of_read rfl

theorem Sys2Proof.Laws.Unreserved.wrUnused27 (d : Sys2Proof.Byte) : Sys2Proof.Laws.Unreserved.Statement (.wrUnused27 d) :=
  Sys2Proof.Laws.Unreserved.of_write rfl

theorem Sys2Proof.Laws.Unreserved.wrUnused28 (k : BitVec 3) (d : Sys2Proof.Byte) : Sys2Proof.Laws.Unreserved.Statement (.wrUnused28 k d) :=
  Sys2Proof.Laws.Unreserved.of_write rfl

theorem Sys2Proof.Laws.Unreserved.rdWave (k : BitVec 4) : Sys2Proof.Laws.Unreserved.Statement (.rdWave k) :=
  Sys2Proof.Laws.Unreserved.of_read rfl

theorem Sys2Proof.Laws.Unreserved.wrWave (k : BitVec 4) (d : Sys2Proof.Byte) : Sys2Proof.Laws.Unreserved.Statement (.wrWave k d) :=
  Sys2Proof.Laws.Unreserved.of_write rfl

theorem Sys2Proof.Laws.Unreserved.rdNoData (a : Sys2Proof.Addr) : Sys2Proof.Laws.Unreserved.Statement (.rdNoData a) :=
  Sys2Proof.Laws.Unreserved.of_read rfl

theorem Sys2Proof.Laws.Unreserved.wrNoData (a : Sys2Proof.Addr) (d : Sys2Proof.Byte) : Sys2Proof.Laws.Unreserved.Statement (.wrNoData a d) :=
  Sys2Proof.Laws.Unreserved.of_write rfl

theorem Sys2Proof.Laws.Unreserved.cycle : Sys2Proof.Laws.Unreserved.Statement .cycle := by
  unfold Sys2Proof.Laws.Unreserved.Statement
  decide
end

