-- ==== Sys2Proof/Tests/Slice0.lean ====
section
/-! SUPPORT. The model's own tests: ill-formed terms, words written out from 30_encoding.md R110 and R115, single steps
with results from 95_test_vectors.md, and for each obligation with hypotheses a state and operands that meet them. -/

namespace Sys2Proof.Machine.Tests
open Sys2Proof Sys2Proof.Machine

/-! ### Well-formedness: the two fallback rows reject the addresses that have a row of their own (R115) -/

theorem test_wellFormed_rdNoData : (Instr.rdNoData 0xFF10).wellFormed = false ∧
    (Instr.rdNoData 0xFF3F).wellFormed = false ∧ (Instr.rdNoData 0xFF0F).wellFormed = true := by decide

theorem test_wellFormed_wrNoData : (Instr.wrNoData 0xFF10 0).wellFormed = false ∧
    (Instr.wrNoData 0xFF3F 0xFF).wellFormed = false ∧ (Instr.wrNoData 0xFF40 0).wellFormed = true := by decide

/-! ### Decoding: op, A and D of each row, bit by bit (R110, R115) -/

theorem test_decode_pulse1 :
    decode (0b00#2 ++ 0b1111111100010000#16 ++ 0b00000000#8) = .ok .rdNr10 ∧
    decode (0b01#2 ++ 0b1111111100010000#16 ++ 0b00010001#8) = .ok (.wrNr10 0x11) ∧
    decode (0b00#2 ++ 0b1111111100010001#16 ++ 0b00000000#8) = .ok .rdNr11 ∧
    decode (0b01#2 ++ 0b1111111100010001#16 ++ 0b10000000#8) = .ok (.wrNr11 0x80) ∧
    decode (0b00#2 ++ 0b1111111100010010#16 ++ 0b00000000#8) = .ok .rdNr12 ∧
    decode (0b01#2 ++ 0b1111111100010010#16 ++ 0b11110000#8) = .ok (.wrNr12 0xF0) ∧
    decode (0b00#2 ++ 0b1111111100010011#16 ++ 0b00000000#8) = .ok .rdNr13 ∧
    decode (0b01#2 ++ 0b1111111100010011#16 ++ 0b11111111#8) = .ok (.wrNr13 0xFF) ∧
    decode (0b00#2 ++ 0b1111111100010100#16 ++ 0b00000000#8) = .ok .rdNr14 ∧
    decode (0b01#2 ++ 0b1111111100010100#16 ++ 0b10000100#8) = .ok (.wrNr14 0x84) := by decide

theorem test_decode_pulse2 :
    decode (0b00#2 ++ 0b1111111100010101#16 ++ 0b00000000#8) = .ok .rdNr20 ∧
    decode (0b01#2 ++ 0b1111111100010101#16 ++ 0b00010001#8) = .ok (.wrNr20 0x11) ∧
    decode (0b00#2 ++ 0b1111111100010110#16 ++ 0b00000000#8) = .ok .rdNr21 ∧
    decode (0b01#2 ++ 0b1111111100010110#16 ++ 0b10000000#8) = .ok (.wrNr21 0x80) ∧
    decode (0b00#2 ++ 0b1111111100010111#16 ++ 0b00000000#8) = .ok .rdNr22 ∧
    decode (0b01#2 ++ 0b1111111100010111#16 ++ 0b11110000#8) = .ok (.wrNr22 0xF0) ∧
    decode (0b00#2 ++ 0b1111111100011000#16 ++ 0b00000000#8) = .ok .rdNr23 ∧
    decode (0b01#2 ++ 0b1111111100011000#16 ++ 0b11111111#8) = .ok (.wrNr23 0xFF) ∧
    decode (0b00#2 ++ 0b1111111100011001#16 ++ 0b00000000#8) = .ok .rdNr24 ∧
    decode (0b01#2 ++ 0b1111111100011001#16 ++ 0b10000100#8) = .ok (.wrNr24 0x84) := by decide

theorem test_decode_wave :
    decode (0b00#2 ++ 0b1111111100011010#16 ++ 0b00000000#8) = .ok .rdNr30 ∧
    decode (0b01#2 ++ 0b1111111100011010#16 ++ 0b00010001#8) = .ok (.wrNr30 0x11) ∧
    decode (0b00#2 ++ 0b1111111100011011#16 ++ 0b00000000#8) = .ok .rdNr31 ∧
    decode (0b01#2 ++ 0b1111111100011011#16 ++ 0b10000000#8) = .ok (.wrNr31 0x80) ∧
    decode (0b00#2 ++ 0b1111111100011100#16 ++ 0b00000000#8) = .ok .rdNr32 ∧
    decode (0b01#2 ++ 0b1111111100011100#16 ++ 0b11110000#8) = .ok (.wrNr32 0xF0) ∧
    decode (0b00#2 ++ 0b1111111100011101#16 ++ 0b00000000#8) = .ok .rdNr33 ∧
    decode (0b01#2 ++ 0b1111111100011101#16 ++ 0b11111111#8) = .ok (.wrNr33 0xFF) ∧
    decode (0b00#2 ++ 0b1111111100011110#16 ++ 0b00000000#8) = .ok .rdNr34 ∧
    decode (0b01#2 ++ 0b1111111100011110#16 ++ 0b10000100#8) = .ok (.wrNr34 0x84) := by decide

theorem test_decode_noise :
    decode (0b00#2 ++ 0b1111111100011111#16 ++ 0b00000000#8) = .ok .rdNr40 ∧
    decode (0b01#2 ++ 0b1111111100011111#16 ++ 0b00010001#8) = .ok (.wrNr40 0x11) ∧
    decode (0b00#2 ++ 0b1111111100100000#16 ++ 0b00000000#8) = .ok .rdNr41 ∧
    decode (0b01#2 ++ 0b1111111100100000#16 ++ 0b10000000#8) = .ok (.wrNr41 0x80) ∧
    decode (0b00#2 ++ 0b1111111100100001#16 ++ 0b00000000#8) = .ok .rdNr42 ∧
    decode (0b01#2 ++ 0b1111111100100001#16 ++ 0b11110000#8) = .ok (.wrNr42 0xF0) ∧
    decode (0b00#2 ++ 0b1111111100100010#16 ++ 0b00000000#8) = .ok .rdNr43 ∧
    decode (0b01#2 ++ 0b1111111100100010#16 ++ 0b11111111#8) = .ok (.wrNr43 0xFF) ∧
    decode (0b00#2 ++ 0b1111111100100011#16 ++ 0b00000000#8) = .ok .rdNr44 ∧
    decode (0b01#2 ++ 0b1111111100100011#16 ++ 0b10000100#8) = .ok (.wrNr44 0x84) := by decide

theorem test_decode_controller :
    decode (0b00#2 ++ 0b1111111100100100#16 ++ 0b00000000#8) = .ok .rdNr50 ∧
    decode (0b01#2 ++ 0b1111111100100100#16 ++ 0b00010001#8) = .ok (.wrNr50 0x11) ∧
    decode (0b00#2 ++ 0b1111111100100101#16 ++ 0b00000000#8) = .ok .rdNr51 ∧
    decode (0b01#2 ++ 0b1111111100100101#16 ++ 0b10000000#8) = .ok (.wrNr51 0x80) ∧
    decode (0b00#2 ++ 0b1111111100100110#16 ++ 0b00000000#8) = .ok .rdNr52 ∧
    decode (0b01#2 ++ 0b1111111100100110#16 ++ 0b11110000#8) = .ok (.wrNr52 0xF0) := by decide

/-- The rows with free address bits, at both ends of their ranges (R115 and the mask checks of 95_test_vectors.md D1). -/
theorem test_decode_ranges :
    decode (0b00#2 ++ 0b1111111100100111#16 ++ 0b00000000#8) = .ok .rdUnused27 ∧
    decode (0b00#2 ++ 0b1111111100101000#16 ++ 0b00000000#8) = .ok (.rdUnused28 0) ∧
    decode (0b00#2 ++ 0b1111111100101111#16 ++ 0b00000000#8) = .ok (.rdUnused28 7) ∧
    decode (0b01#2 ++ 0b1111111100100111#16 ++ 0b10101011#8) = .ok (.wrUnused27 0xAB) ∧
    decode (0b01#2 ++ 0b1111111100101000#16 ++ 0b10101011#8) = .ok (.wrUnused28 0 0xAB) ∧
    decode (0b01#2 ++ 0b1111111100101111#16 ++ 0b10101011#8) = .ok (.wrUnused28 7 0xAB) ∧
    decode (0b00#2 ++ 0b1111111100110000#16 ++ 0b00000000#8) = .ok (.rdWave 0) ∧
    decode (0b00#2 ++ 0b1111111100111111#16 ++ 0b00000000#8) = .ok (.rdWave 15) ∧
    decode (0b01#2 ++ 0b1111111100110000#16 ++ 0b01010101#8) = .ok (.wrWave 0 0x55) ∧
    decode (0b01#2 ++ 0b1111111100111111#16 ++ 0b01010101#8) = .ok (.wrWave 15 0x55) := by decide

theorem test_decode_fallback :
    decode (0b00#2 ++ 0b1111111100001111#16 ++ 0b00000000#8) = .ok (.rdNoData 0xFF0F) ∧
    decode (0b00#2 ++ 0b1111111101000000#16 ++ 0b00000000#8) = .ok (.rdNoData 0xFF40) ∧
    decode (0b01#2 ++ 0b0000000000000000#16 ++ 0b00010010#8) = .ok (.wrNoData 0x0000 0x12) ∧
    decode (0b01#2 ++ 0b1111111111111111#16 ++ 0b11111111#8) = .ok (.wrNoData 0xFFFF 0xFF) ∧
    decode (0b10#2 ++ 0b0000000000000000#16 ++ 0b00000000#8) = .ok .cycle := by decide

/-- The reserved words of 95_test_vectors.md D1, refused by name (R113). -/
theorem test_decode_reserved :
    decode (0b11#2 ++ 0b0000000000000000#16 ++ 0b00000000#8) = .error .reservedOp ∧
    decode (0b00#2 ++ 0b1111111100100110#16 ++ 0b00000001#8) = .error .readWithData ∧
    decode (0b10#2 ++ 0b0000000000000000#16 ++ 0b00000001#8) = .error .cycleWithOperand ∧
    decode (0b10#2 ++ 0b1111111100010000#16 ++ 0b00000000#8) = .error .cycleWithOperand := by decide

/-- Opcode-table bits: the row's own bits are the word, and a value of more than 26 bits is refused. -/
theorem test_decodeTableWord : decodeTableWord 32 0x01FF1000 = some (.wrNr10 0) ∧
    decodeTableWord 32 0x2000000 = some .cycle ∧ decodeTableWord 32 0x3000000 = none ∧
    decodeTableWord 32 0x4000000 = none := by decide

/-- The lines of 95_test_vectors.md P2 and P4 and the words beside them (R116, R117). -/
theorem test_assemble_text :
    assembleText "wr NR42, 0xF0 ; volume".toList = some [0x1FF21F0] ∧
    assembleText "expect rd WAVE+3 = 0x67".toList = some [0x0FF3300] ∧
    assembleText "cyc 2".toList = some [0x2000000, 0x2000000] ∧ assembleText "cyc 0".toList = none := by
  decide +kernel

/-! ### Small states -/

/-- The state after one instruction; the state itself if it does not answer one. -/
def after (i : Instr) (s : State) : State :=
  match exec i s with
  | .next t => t
  | .fault _ => s
  | .refused _ => s

/-- Reset with some registers changed. -/
def withRegs (f : RegFile → RegFile) : State := { State.reset with regs := f State.reset.regs }

/-- All four channels on and about to expire, routed to both sides at volume 7; the sweep holds 768 as in
95_test_vectors.md P3, the wave table byte 0x0F of D6, the noise the seed of D8. -/
def playing : State :=
  { State.reset with
    regs :=
      { RegFile.reset with
        nr10 := 0x11
        nr11 := 0x80
        nr12 := 0xF1
        nr14 := 0xC3
        nr21 := 0x80
        nr22 := 0xF9
        nr23 := 0xFF
        nr24 := 0xC7
        nr30 := 0x80
        nr32 := 0x20
        nr33 := 0xFF
        nr34 := 0xC7
        nr42 := 0xF1
        nr43 := 0x08
        nr44 := 0xC0
        nr50 := 0x77
        nr51 := 0xFF }
    ch1 :=
      { enabled := true, length := 1, timer := 1, amp := 0, vol := 15, envTimer := 1, envActive := true
        shadow := 768, sweepTimer := 1, sweepEnabled := true, overflow := false, phase := 7 }
    ch2 := { enabled := true, length := 2, timer := 2, amp := 15, vol := 14, envTimer := 1, envActive := true, phase := 4 }
    ch3 := { enabled := true, length := 1, timer := 1, amp := 0, wave := [(0xFF30, 0x0F)], pos := 0, accessAge := 0 }
    ch4 := { enabled := true, length := 0, timer := 1, amp := 0, vol := 1, envTimer := 1, envActive := true, lfsr := 0x7FFF } }

/-- `playing` at sequencer step `k`, in the CYCLE in which both controller countdowns expire. -/
def playingAt (k : Nat) : State := { playing with ctl := { playing.ctl with seqStep := k, seqCount := 1, sampleCount := 1 } }

/-- `playing` with the wave accesses arbitrated over a window of 2 (R343, R344). -/
def arbitrated (age : Nat) : State :=
  { playing with
    config := { standardConfig with waveRamAccess := .arbitrated, waveAccessWindow := 2 }
    ch3 := { playing.ch3 with pos := 1, accessAge := age } }

/-- `playing` with every channel but one at reset. -/
def aloneFrom : Channel → State
  | .ch1 => { playing with ch2 := State.reset.ch2, ch3 := State.reset.ch3, ch4 := State.reset.ch4 }
  | .ch2 => { playing with ch1 := State.reset.ch1, ch3 := State.reset.ch3, ch4 := State.reset.ch4 }
  | .ch3 => { playing with ch1 := State.reset.ch1, ch2 := State.reset.ch2, ch4 := State.reset.ch4 }
  | .ch4 => { playing with ch1 := State.reset.ch1, ch2 := State.reset.ch2, ch3 := State.reset.ch3 }

/-- A machine that has met a contract violation. -/
def faulted : State := { playing with fault := some (.tickStepOutOfRange 8) }

/-! ### Single steps -/

/-- 95_test_vectors.md D12: the READs at reset. -/
theorem test_reads_at_reset :
    (after .rdNr10 State.reset).answers = [.byte 0x80] ∧ (after .rdNr11 State.reset).answers = [.byte 0x3F] ∧
    (after .rdNr12 State.reset).answers = [.byte 0x00] ∧ (after .rdNr13 State.reset).answers = [.byte 0xFF] ∧
    (after .rdNr14 State.reset).answers = [.byte 0xBF] ∧ (after .rdNr20 State.reset).answers = [.byte 0xFF] ∧
    (after .rdNr21 State.reset).answers = [.byte 0x3F] ∧ (after .rdNr22 State.reset).answers = [.byte 0x00] ∧
    (after .rdNr23 State.reset).answers = [.byte 0xFF] ∧ (after .rdNr24 State.reset).answers = [.byte 0xBF] ∧
    (after .rdNr30 State.reset).answers = [.byte 0x7F] ∧ (after .rdNr31 State.reset).answers = [.byte 0xFF] ∧
    (after .rdNr32 State.reset).answers = [.byte 0x9F] ∧ (after .rdNr33 State.reset).answers = [.byte 0xFF] ∧
    (after .rdNr34 State.reset).answers = [.byte 0xBF] ∧ (after .rdNr40 State.reset).answers = [.byte 0xFF] ∧
    (after .rdNr41 State.reset).answers = [.byte 0xFF] ∧ (after .rdNr42 State.reset).answers = [.byte 0x00] ∧
    (after .rdNr43 State.reset).answers = [.byte 0x00] ∧ (after .rdNr44 State.reset).answers = [.byte 0xBF] ∧
    (after .rdNr50 State.reset).answers = [.byte 0x00] ∧ (after .rdNr51 State.reset).answers = [.byte 0x00] ∧
    (after .rdNr52 State.reset).answers = [.byte 0x70] ∧ (after .rdUnused27 State.reset).answers = [.byte 0xFF] ∧
    (after (.rdUnused28 7) State.reset).answers = [.byte 0xFF] ∧ (after (.rdWave 15) State.reset).answers = [.byte 0x00] ∧
    (after (.rdNoData 0xFF40) State.reset).answers = [.noData] := by decide

/-- R150: power bit, reserved bits as 1, all four channels; then with the DACs of 1 and 3 off (R211), and with sweep
overflow (R306). -/
theorem test_rdNr52 :
    (after .rdNr52 { playing with regs := { playing.regs with nr52 := 0x80 } }).answers = [.byte 0xFF] ∧
    (after .rdNr52 { playing with regs := { playing.regs with nr12 := 0x07, nr30 := 0x7F } }).answers = [.byte 0x7A] ∧
    (after .rdNr52 { playing with ch1 := { playing.ch1 with overflow := true } }).answers = [.byte 0x7E] := by decide

/-- 95_test_vectors.md E10: the stored bytes take all eight bits. -/
theorem test_plain_writes :
    (after (.wrNr10 0xFF) playing).regs.nr10 = 0xFF ∧ (after (.wrNr12 0xFF) playing).regs.nr12 = 0xFF ∧
    (after (.wrNr13 0xFF) playing).regs.nr13 = 0xFF ∧ (after (.wrNr20 0xFF) playing).regs.nr20 = 0xFF ∧
    (after (.wrNr22 0xFF) playing).regs.nr22 = 0xFF ∧ (after (.wrNr23 0xFE) playing).regs.nr23 = 0xFE ∧
    (after (.wrNr30 0xFF) playing).regs.nr30 = 0xFF ∧ (after (.wrNr32 0xFF) playing).regs.nr32 = 0xFF ∧
    (after (.wrNr33 0xFE) playing).regs.nr33 = 0xFE ∧ (after (.wrNr40 0xFF) playing).regs.nr40 = 0xFF ∧
    (after (.wrNr42 0xFF) playing).regs.nr42 = 0xFF ∧ (after (.wrNr43 0xFF) playing).regs.nr43 = 0xFF ∧
    (after (.wrNr50 0xFF) playing).regs.nr50 = 0xFF ∧ (after (.wrNr51 0x5A) playing).regs.nr51 = 0x5A ∧
    (after (.wrNr52 0x0F) playing).regs.nr52 = 0x0F ∧ (after (.wrNr52 0x0F) playing).ch1 = playing.ch1 := by decide

/-- 95_test_vectors.md D1: these WRITEs have no effect. -/
theorem test_ignored_writes :
    after (.wrUnused27 0xAB) playing = playing ∧ after (.wrUnused28 2 0xAB) playing = playing ∧
    after (.wrNoData 0xFF40 0x00) playing = playing := by decide

/-- 95_test_vectors.md D2: the length loads. -/
theorem test_length_loads :
    (after (.wrNr11 0x00) playing).ch1.length = 64 ∧ (after (.wrNr11 0xBE) playing).ch1.length = 2 ∧
    (after (.wrNr21 0x3F) playing).ch2.length = 1 ∧ (after (.wrNr31 0x00) playing).ch3.length = 256 ∧
    (after (.wrNr31 0xFF) playing).ch3.length = 1 ∧ (after (.wrNr41 0xFF) playing).ch4.length = 1 := by decide

/-- 95_test_vectors.md E1 and P3's second channel-1 case (D5: 0x11 at 2047 overflows at the trigger). -/
theorem test_wrNr14 :
    (after (.wrNr14 0x84) (withRegs fun f => { f with nr11 := 0x80, nr12 := 0xF0 })).ch1.timer = 4096 ∧
    (after (.wrNr14 0x84) (withRegs fun f => { f with nr11 := 0x80, nr12 := 0xF0 })).ch1.length = 64 ∧
    (after (.wrNr14 0x87) (withRegs fun f => { f with nr10 := 0x11, nr12 := 0xF0, nr13 := 0xFF })).ch1.toSweep =
      { shadow := 2047, sweepTimer := 1, sweepEnabled := true, overflow := true } ∧
    (after (.wrNr14 0x04) playing).ch1 = playing.ch1 := by decide

/-- 95_test_vectors.md D3, row 0xF0, and D4, f = 2047. -/
theorem test_wrNr24 :
    (after (.wrNr24 0x80) (withRegs fun f => { f with nr22 := 0xF0 })).ch2.toEnvelope =
      { vol := 15, envTimer := 8, envActive := true } ∧
    (after (.wrNr24 0x87) (withRegs fun f => { f with nr22 := 0xF0, nr23 := 0xFF })).ch2.timer = 4 := by decide

/-- 95_test_vectors.md E4 (a trigger with the DAC off ends disabled), D6 (f = 2047) and D2 (256). -/
theorem test_wrNr34 :
    (after (.wrNr34 0x80) State.reset).ch3.enabled = false ∧ (after (.wrNr34 0x80) State.reset).ch3.length = 256 ∧
    (after (.wrNr34 0x87) (withRegs fun f => { f with nr30 := 0x80, nr33 := 0xFF })).ch3.timer = 2 := by decide

/-- 95_test_vectors.md E2 and D7 (0xF7). -/
theorem test_wrNr44 :
    (after (.wrNr44 0x80) (withRegs fun f => { f with nr42 := 0xF0 })).ch4.timer = 8 ∧
    (after (.wrNr44 0x80) (withRegs fun f => { f with nr42 := 0xF0 })).ch4.lfsr = 0x7FFF ∧
    (after (.wrNr44 0x80) (withRegs fun f => { f with nr42 := 0xF0, nr43 := 0xF7 })).ch4.timer = 3670016 := by decide

/-- R341 and R343: direct, within the window (the busy value), and after it (the byte being played). -/
theorem test_rdWave :
    (after (.rdWave 0) playing).answers = [.byte 0x0F] ∧ (after (.rdWave 5) (arbitrated 1)).answers = [.byte 0xFF] ∧
    (after (.rdWave 5) (arbitrated 2)).answers = [.byte 0x0F] ∧ (after (.rdWave 5) (arbitrated 2)).ch3.accessAge = 0 := by
  decide

/-- R342 and R344: direct, within the window (nothing), and after it (the byte being played). -/
theorem test_wrWave :
    (after (.wrWave 15 0x55) playing).ch3.wave = [(0xFF30, 0x0F), (0xFF3F, 0x55)] ∧
    (after (.wrWave 0 0x00) playing).ch3.wave = [] ∧ (after (.wrWave 5 0x55) (arbitrated 1)).ch3.wave = [(0xFF30, 0x0F)] ∧
    (after (.wrWave 5 0x55) (arbitrated 2)).ch3.wave = [(0xFF30, 0x55)] := by decide

/-- 95_test_vectors.md D12 and D9: the first CYCLE, and an expiry at step 7. -/
theorem test_cycle_countdowns :
    (after .cycle State.reset).ctl.seqCount = 8191 ∧ (after .cycle State.reset).ctl.sampleCount = 94 ∧
    (after .cycle (playingAt 7)).ctl.seqStep = 0 ∧ (after .cycle (playingAt 7)).ctl.seqCount = 8192 := by decide

/-- P3: the commit of 1152 at step 2, with the length of channel 1 running out in the same tick (R214, R305). The reload
of the same CYCLE already has the new frequency (R426). -/
theorem test_cycle_sweep_and_length :
    (after .cycle (playingAt 2)).ch1.shadow = 1152 ∧ (after .cycle (playingAt 2)).regs.nr13 = 0x80 ∧
    (after .cycle (playingAt 2)).regs.nr14 = 0xC4 ∧ (after .cycle (playingAt 2)).ch1.enabled = false ∧
    (after .cycle (playingAt 2)).ch1.timer = (2048 - 1152) * 4 ∧ (after .cycle (playingAt 2)).ch2.length = 1 := by decide

/-! The rules' own functions, on the spec's values -/

/-- 95_test_vectors.md D3: rows 0x22 and 0xF9 at their freeze, 0xF0 with period 0. -/
theorem test_envelopeClock :
    envelopeClock 0x22 { vol := 1, envTimer := 1, envActive := true } = { vol := 0, envTimer := 2, envActive := false } ∧
    envelopeClock 0xF9 { vol := 15, envTimer := 1, envActive := true } = { vol := 15, envTimer := 1, envActive := false } ∧
    envelopeClock 0xF0 { vol := 15, envTimer := 8, envActive := true } = { vol := 15, envTimer := 8, envActive := true } := by
  decide

/-- 95_test_vectors.md E5: an odd tick leaves the length, an even one ends it. -/
theorem test_apiTick_length :
    (apiTick .ch1 1 playing).ch1.length = 1 ∧ (apiTick .ch1 4 playing).ch1.length = 0 ∧
    (apiTick .ch1 4 playing).ch1.enabled = false := by decide

/-- 95_test_vectors.md D5: calc() on its boundary rows. -/
theorem test_sweepTarget :
    sweepTarget 0x01 1365 = 2047 ∧ sweepTarget 0x01 1366 = 2049 ∧ sweepTarget 0x08 1000 = 0 ∧ sweepTarget 0x00 1024 = 2048 := by
  decide

/-- 95_test_vectors.md D4: the four duty patterns at phases 7 and 0. -/
theorem test_duty :
    dutyBit standardConfig 0 7 = true ∧ dutyBit standardConfig 0 0 = false ∧ dutyBit standardConfig 1 0 = true ∧
    dutyBit standardConfig 2 5 = true ∧ dutyBit standardConfig 2 4 = false ∧ dutyBit standardConfig 3 6 = true ∧
    dutyBit standardConfig 3 7 = false := by decide

/-- 95_test_vectors.md D6: wave byte 0x9A at even and odd positions, by the volume code. -/
theorem test_wave_shift : 9 >>> waveShift 0 = 0 ∧ 10 >>> waveShift 1 = 10 ∧ 9 >>> waveShift 2 = 4 ∧ 10 >>> waveShift 3 = 2 := by
  decide

/-- 95_test_vectors.md D8: states 14 and 15 of the wide sequence, 6 and 7 of the narrow one, and the corner case. -/
theorem test_lfsrNext :
    lfsrNext false 0x0003 = 0x0001 ∧ lfsrNext false 0x0001 = 0x4000 ∧ lfsrNext true 0x0383 = 0x0181 ∧
    lfsrNext true 0x0181 = 0x40C0 ∧ lfsrNext true 0x0080 = 0 ∧ lfsrNext false 0x0080 = 0x0040 := by decide

/-- 95_test_vectors.md D11, the rows of 0x31 with 0x73 (amplitudes 15, 15, 0, 0). -/
theorem test_mix :
    mixSide 30 (leftVolume 0x73) standardConfig = 49 ∧ mixSide 15 (rightVolume 0x73) standardConfig = 9 ∧
    routedLeft 0x31 .ch2 = true ∧ routedRight 0x31 .ch2 = false := by decide

/-- 95_test_vectors.md D13: `tick(8)` is a contract violation. -/
theorem test_tick_out_of_range :
    (apiTick .ch3 8 playing).fault = some (.tickStepOutOfRange 8) ∧ (apiTick .ch3 8 playing).ch3 = playing.ch3 := by decide

/-- `step` runs a placed word as the first instruction after reset. -/
theorem test_first_instruction :
    step (State.reset.withFetchWord 32 0x01FF2680) = .next (after (.wrNr52 0x80) State.reset) := rfl

/-! ### The hypotheses of the obligations can be met -/

theorem witness_DecodeEncodeRoundTrip :
    (Instr.rdNoData 0xFF0F).wellFormed = true ∧ (Instr.wrNoData 0xFF40 0xFF).wellFormed = true ∧
    (Instr.wrNr14 0xFF).wellFormed = true := by decide

theorem witness_EncodeDecodeRoundTrip : decode 0x1FF1484 = .ok (.wrNr14 0x84) := by decide

theorem witness_ReservedWordsAreRefused :
    configValid State.reset.config = true ∧ (State.reset.withFetchWord 32 0x2000001).pending = [0x2000001] ∧
    decode 0x2000001 = .error .cycleWithOperand := by decide

/-- The first and the last register row, READ and WRITE; the rows of 0xFF27; the ranges; the fallbacks; CYCLE. -/
theorem witness_DecodeFollowsTheOpcodeMasks :
    (0x0FF1000 : StimulusWord) &&& 0x3FFFFFF = 0x00FF1000 ∧ (0x1FF1000 : StimulusWord) &&& 0x3FFFF00 = 0x01FF1000 ∧
    (0x0FF2600 : StimulusWord) &&& 0x3FFFFFF = 0x00FF2600 ∧ (0x1FF26FF : StimulusWord) &&& 0x3FFFF00 = 0x01FF2600 ∧
    (0x0FF2700 : StimulusWord) &&& 0x3FFFFFF = 0x00FF2700 ∧ (0x1FF27AB : StimulusWord) &&& 0x3FFFF00 = 0x01FF2700 ∧
    (0x2000000 : StimulusWord) &&& 0x3FFFFFF = 0x2000000 ∧
    (0x0FF2F00 : StimulusWord) &&& 0x3FFF8FF = 0x00FF2800 ∧ (0x1FF28AB : StimulusWord) &&& 0x3FFF800 = 0x01FF2800 ∧
    (0x0FF3F00 : StimulusWord) &&& 0x3FFF0FF = 0x00FF3000 ∧ (0x1FF3055 : StimulusWord) &&& 0x3FFF000 = 0x01FF3000 ∧
    ((0x0FF0F00 : StimulusWord).extractLsb' 8 16).toNat < 0xFF10 ∧ (0x0FF0F00 : StimulusWord) &&& 0x30000FF = 0x0000000 ∧
    0xFF3F < ((0x1FF4000 : StimulusWord).extractLsb' 8 16).toNat ∧ (0x1FF4000 : StimulusWord) &&& 0x3000000 = 0x1000000 := by
  decide

theorem witness_AssemblerWordsDecode :
    1 ≤ 1 ∧ (List.replicate 16 (0 : Byte)).length = 16 ∧ (List.replicate 16 (0 : Byte))[15]? = some 0 := by decide

theorem witness_StepRunsTheDecodedStimulus :
    configValid playing.config = true ∧ ({ playing with pending := [0x2000000] } : State).pending = [0x2000000] ∧
    decode 0x2000000 = .ok .cycle := by decide

theorem witness_StepWithoutStimulusWaits :
    configValid State.reset.config = true ∧ State.reset.pending = [] ∧
    ({ standardConfig with masterClockHz := 511 } : Config).masterClockHz < 512 ∧
    ({ standardConfig with sampleRateHz := 4194305 } : Config).masterClockHz < 4194305 ∧
    ({ standardConfig with sampleRateHz := 0 } : Config).sampleRateHz = 0 ∧
    ({ standardConfig with bufferCapacity := 3 } : Config).bufferCapacity % 2 = 1 ∧
    ({ standardConfig with bufferCapacity := 0 } : Config).bufferCapacity < 2 := by decide

theorem witness_ContractViolationIsFinal :
    playing.fault = none ∧ 0xFFFF < 0x10000 ∧ 7 < 8 ∧ faulted.fault = some (.tickStepOutOfRange 8) := by decide

theorem witness_CycleWithSequencerStepOutOfRange :
    (playingAt 8).fault = none ∧ seqExpires (playingAt 8) = true ∧ 7 < (playingAt 8).ctl.seqStep := by decide

theorem witness_BusRoutingAgreesWithDecode :
    playing.fault = none ∧ claims 0xFF14 (.channel .ch1) = true ∧ claims 0xFF15 (.channel .ch2) = true ∧
    claims 0xFF1A (.channel .ch3) = true ∧ claims 0xFF3F (.channel .ch3) = true ∧ claims 0xFF1F (.channel .ch4) = true ∧
    claims 0xFF24 .controller = true ∧ claims 0xFF0F .controller = false := by decide

theorem witness_Channel1RegisterReads : playing.fault = none ∧ (after .rdNr14 playing).answers = [.byte 0xFF] := by decide

theorem witness_Channel2RegisterReads : playing.fault = none ∧ (after .rdNr21 playing).answers = [.byte 0xBF] := by decide

theorem witness_Channel3RegisterReads : playing.fault = none ∧ (after .rdNr32 playing).answers = [.byte 0xBF] := by decide

theorem witness_Channel4RegisterReads : playing.fault = none ∧ (after .rdNr43 playing).answers = [.byte 0x08] := by decide

theorem witness_ControllerReads : playing.fault = none ∧ (after .rdNr50 playing).answers = [.byte 0x77] := by decide

theorem witness_Nr52ReadsPowerAndStatus : playing.fault = none ∧ (after .rdNr52 playing).answers = [.byte 0x7F] := by decide

/-- Direct; arbitrated with channel 3 not enabled; arbitrated within and after the window. -/
theorem witness_WaveReads :
    playing.fault = none ∧ playing.config.waveRamAccess = .direct ∧
    isEnabled { arbitrated 1 with ch3 := { (arbitrated 1).ch3 with enabled := false } } .ch3 = false ∧
    (arbitrated 1).fault = none ∧ isEnabled (arbitrated 1) .ch3 = true ∧
    (arbitrated 1).ch3.accessAge < (arbitrated 1).config.waveAccessWindow ∧
    (arbitrated 2).config.waveAccessWindow ≤ (arbitrated 2).ch3.accessAge := by decide

theorem witness_PulsePlainWrites : playing.fault = none ∧ (0x07 : Byte) &&& 0xF8 = 0 := by decide

theorem witness_WaveAndNoisePlainWrites :
    playing.fault = none ∧ (0x7F : Byte).getLsbD 7 = false ∧ (0x07 : Byte) &&& 0xF8 = 0 := by decide

theorem witness_ControllerWrites : playing.fault = none ∧ (after (.wrNr51 0xF0) playing).regs.nr51 = 0xF0 := by decide

theorem witness_LengthLoads : playing.fault = none ∧ (after (.wrNr21 0xC0) playing).ch2.length = 64 := by decide

theorem witness_Channel1TriggerWrite : playing.fault = none ∧ (after (.wrNr14 0x83) playing).ch1.phase = 0 := by decide

theorem witness_Channel2TriggerWrite : playing.fault = none ∧ (after (.wrNr24 0x87) playing).ch2.phase = 0 := by decide

theorem witness_Channel3TriggerWrite : playing.fault = none ∧ (after (.wrNr34 0x87) playing).ch3.timer = 2 := by decide

theorem witness_Channel4TriggerWrite : playing.fault = none ∧ (after (.wrNr44 0x80) playing).ch4.length = 64 := by decide

/-- The four cases of `witness_WaveReads`, for a WRITE. -/
theorem witness_WaveWrites :
    playing.fault = none ∧ waveWriteIndex 15 playing = some 15 ∧ waveWriteIndex 15 (arbitrated 1) = none ∧
    waveWriteIndex 15 (arbitrated 2) = some 0 := by decide

theorem witness_WaveWriteFrame :
    exec (.wrWave 15 0x55) playing = .next (after (.wrWave 15 0x55) playing) ∧ waveWriteIndex 15 playing = some 15 ∧
    Memory.wf playing.ch3.wave = true ∧ playing.ch3.pos ≤ 31 ∧
    exec (.wrWave 15 0x55) (arbitrated 1) = .next (arbitrated 1) ∧ waveWriteIndex 15 (arbitrated 1) = none :=
  ⟨rfl, by decide, by decide, by decide, rfl, by decide⟩

theorem witness_CycleCountdowns :
    (playingAt 7).fault = none ∧ (playingAt 7).ctl.seqStep ≤ 7 ∧ (playingAt 7).ctl.seqCount - 1 = 0 ∧
    (playingAt 7).ctl.sampleCount - 1 = 0 ∧ playing.ctl.seqCount - 1 ≠ 0 ∧ playing.ctl.sampleCount - 1 ≠ 0 := by decide

theorem witness_CycleLengthClocks :
    (playingAt 0).fault = none ∧ (playingAt 0).ctl.seqStep ≤ 7 ∧
    1 ≤ (playingAt 0).ctl.seqCount ∧ (chanOf (after .cycle (playingAt 0)) .ch3).enabled = false ∧
    (chanOf (after .cycle (playingAt 0)) .ch2).length = 1 ∧ (chanOf (after .cycle (playingAt 0)) .ch4).enabled = true := by decide

theorem witness_CycleEnvelopeClocks :
    (playingAt 7).fault = none ∧ (playingAt 7).ctl.seqStep ≤ 7 ∧
    1 ≤ (playingAt 7).ctl.seqCount ∧ (after .cycle (playingAt 7)).ch2.vol = 15 ∧
    (after .cycle (playingAt 7)).ch2.envActive = false ∧ (after .cycle (playingAt 7)).ch4.vol = 0 := by decide

theorem witness_CycleSweepClock :
    (playingAt 6).fault = none ∧ (playingAt 6).ctl.seqStep ≤ 7 ∧
    1 ≤ (playingAt 6).ctl.seqCount ∧ (after .cycle (playingAt 6)).ch1.shadow = 1152 ∧
    (after .cycle (playingAt 4)).ch1.shadow = 768 := by decide

theorem witness_CycleFrame :
    (playingAt 2).fault = none ∧ (playingAt 2).ctl.seqStep ≤ 7 ∧ (after .cycle (playingAt 2)).regs.nr14 &&& 0xF8 = 0xC0 := by decide

theorem witness_CyclePulseSteps :
    playing.fault = none ∧ playing.ctl.seqStep ≤ 7 ∧ ¬ 1 < playing.ch1.timer ∧ 1 < playing.ch2.timer ∧
    (after .cycle playing).ch1.phase = 0 ∧ (after .cycle playing).ch1.amp = 15 := by decide

theorem witness_CycleWaveStep :
    playing.fault = none ∧ playing.ctl.seqStep ≤ 7 ∧ (after .cycle playing).ch3.pos = 1 ∧ (after .cycle playing).ch3.amp = 15 := by decide

theorem witness_CycleNoiseStep :
    playing.fault = none ∧ playing.ctl.seqStep ≤ 7 ∧ (after .cycle playing).ch4.lfsr = 0x3FBF := by decide

theorem witness_CycleEmitsAndFlushes :
    (playingAt 1).fault = none ∧ (playingAt 1).ctl.seqStep ≤ 7 ∧
    1 ≤ (playingAt 1).ctl.sampleCount ∧ (after .cycle (playingAt 1)).ctl.buffer = [77, 77] ∧
    (after .cycle { playingAt 1 with ctl := { (playingAt 1).ctl with buffer := [0, 0] } }).ctl.out = [[0, 0, 77, 77]] := by decide

theorem witness_MixIsAtMost105 : ∀ c : Channel, (chanOf playing c).amp ≤ 15 := by
  intro c
  cases c <;> decide

/-- For each side: nothing routed, nothing enabled, volume 0. -/
theorem witness_SilentSideMixesToZero :
    (0x0F : Byte).toNat / 16 = 0 ∧ (0xF0 : Byte).toNat % 16 = 0 ∧ (∀ c : Channel, isEnabled State.reset c = false) ∧
    (0x8F : Byte).toNat / 16 % 8 = 0 ∧ (0xF8 : Byte).toNat % 8 = 0 := by
  refine ⟨by decide, by decide, ?_, by decide, by decide⟩
  intro c
  cases c <;> decide

theorem witness_MixIsMonotone :
    (after .cycle playing).regs = playing.regs ∧ (after .cycle playing).config = playing.config ∧
    ∀ c : Channel, outputAmplitude playing c ≤ outputAmplitude (after .cycle playing) c := by
  refine ⟨by decide, by decide, ?_⟩
  intro c
  cases c <;> decide

theorem witness_DacOffSilences :
    (0x07 : Byte) &&& 0xF8 = 0 ∧ (0x08 : Byte) &&& 0xF8 ≠ 0 ∧ (0x7F : Byte).getLsbD 7 = false ∧
    (chanOf (after .cycle playing) .ch1).amp ≤ 15 ∧ outputAmplitude (after .cycle playing) .ch1 = 15 := by decide

/-- A state with every channel playing meets the invariant. -/
theorem playing_inv : Inv playing where
  config := by decide
  correct := rfl
  chan1 := ⟨by decide, by decide, by decide⟩
  chan2 := ⟨by decide, by decide, by decide⟩
  chan3 := ⟨by decide, by decide, by decide⟩
  chan4 := ⟨by decide, by decide, by decide⟩
  env1 := ⟨by decide, by decide⟩
  env2 := ⟨by decide, by decide⟩
  env4 := ⟨by decide, by decide⟩
  sweep := ⟨by decide, by decide⟩
  phase1 := by decide
  phase2 := by decide
  pos := by decide
  age := by decide
  wave := by decide
  ctl := ⟨by decide, by decide, by decide, by decide, by decide, by decide, by decide, by decide, by decide, by decide⟩

theorem witness_StepKeepsInvariant : Inv playing ∧ step playing = .next playing := ⟨playing_inv, rfl⟩

theorem witness_WaveRoundTrip :
    Inv playing ∧ playing.config.waveRamAccess = .direct ∧
    ∃ t, runAll (.wrWave 15 0x55 :: List.replicate 1 .cycle ++ [.rdWave 15]) playing = .next t :=
  ⟨playing_inv, by decide, _, rfl⟩

theorem witness_ResetSatisfiesInvariant :
    configValid standardConfig = true ∧
    configValid { standardConfig with masterClockHz := 512, sampleRateHz := 512, bufferCapacity := 2 } = true := by decide

theorem witness_EveryStimulusCompletes :
    step (playing.withFetchWord 32 0x2000000) = .next (after .cycle playing) := rfl

/-- Channel 1's length expires in this CYCLE; and a trigger with the DAC off changes the flag too. -/
theorem witness_EnabledChangesOnlyByTriggerOrExpiry :
    exec .cycle (playingAt 0) = .next (after .cycle (playingAt 0)) ∧
    (chanOf (after .cycle (playingAt 0)) .ch1).enabled ≠ (chanOf (playingAt 0) .ch1).enabled ∧
    seqExpires (playingAt 0) = true ∧ (chanOf (after .cycle (playingAt 0)) .ch1).length = 0 ∧
    (chanOf (after (.wrNr34 0x80) State.reset) .ch3).enabled = false ∧
    (chanOf (after (.wrNr44 0x80) { playing with ch4 := { playing.ch4 with enabled := false } }) .ch4).enabled = true ∧
    dac State.reset.regs .ch1 = false ∧ (chanOf playing .ch1).enabled = true ∧ dac playing.regs .ch1 = true ∧
    playing.ch1.overflow = false := ⟨rfl, by decide, by decide, by decide, by decide, by decide, by decide,
      by decide, by decide, by decide⟩

/-- One even tick among odd ones, for a counter at 1 and for one at 0. -/
theorem witness_LengthExpiresAfterItsTicks :
    playing.fault = none ∧ (∀ k ∈ [1, 2, 7], k ≤ 7) ∧ (nrx4 playing.regs .ch3).getLsbD 6 = true ∧
    [1, 2, 7].countP (fun k => k % 2 = 0) = (chanOf playing .ch3).length ∧
    (nrx4 playing.regs .ch4).getLsbD 6 = true ∧ (chanOf playing .ch4).length = 0 := by decide

theorem witness_EnvelopeFrozenUntilTrigger :
    State.reset.ch1.envActive = false ∧ State.reset.ch2.envActive = false ∧ State.reset.ch4.envActive = false ∧
    ¬ IsTrigger .ch1 .cycle ∧ ¬ IsTrigger .ch2 (.wrNr22 0xF9) ∧ ¬ IsTrigger .ch4 (.wrNr42 0xF9) ∧
    (after .cycle (playingAt 7)).ch2.vol ≠ (playingAt 7).ch2.vol ∧ (after .cycle (playingAt 7)).ch2.vol = 15 ∧
    (after .cycle (playingAt 7)).ch4.vol ≠ (playingAt 7).ch4.vol ∧ (after .cycle (playingAt 7)).ch4.vol = 0 := by
  refine ⟨rfl, rfl, rfl, ?_, ?_, ?_, by decide, by decide, by decide, by decide⟩ <;> rintro ⟨d, _, h⟩ <;> cases h

/-- Overflow set, and the CYCLE that sets it: 768 becomes 1728 with a second result of 2592 (P3). -/
theorem witness_OverflowSilencesUntilTrigger :
    ({ playing with ch1 := { playing.ch1 with overflow := true } } : State).ch1.overflow = true ∧
    ¬ IsTrigger .ch1 (.wrNr12 0xF0) ∧
    (playingAt 6).ch1.overflow = false ∧
    (after .cycle { playingAt 6 with ch1 := { (playingAt 6).ch1 with shadow := 1152 } }).ch1.overflow = true := by
  refine ⟨rfl, ?_, rfl, by decide⟩
  rintro ⟨d, _, h⟩
  cases h

theorem witness_ShadowChangesOnlyByTriggerOrCommit :
    exec .cycle (playingAt 6) = .next (after .cycle (playingAt 6)) ∧
    (after .cycle (playingAt 6)).ch1.shadow ≠ (playingAt 6).ch1.shadow ∧
    (after (.wrNr14 0x80) playing).ch1.shadow ≠ playing.ch1.shadow := ⟨rfl, by decide, by decide⟩

theorem witness_RegisterRoundTripThroughCycles :
    playing.fault = none ∧ playing.ctl.seqStep ≤ 7 ∧
    ∃ t, runAll (writeOfReg 0xFF .nr43 :: List.replicate 1 .cycle ++ [readOfReg .nr43]) playing = .next t ∧
      t.answers = [.byte 0xFF] := ⟨by decide, by decide, _, rfl, rfl⟩

theorem witness_PulseFirstAdvanceAfterTrigger :
    playing.fault = none ∧ playing.ctl.seqStep ≤ 7 ∧ (0x87 : Byte).getLsbD 7 = true ∧
    4 ≤ (2048 - ((0x87 : Byte).toNat % 8 * 256 + playing.regs.nr23.toNat)) * 4 ∧
    4 ≤ (2048 - ((0x87 : Byte).toNat % 8 * 256 + playing.regs.nr13.toNat)) * 4 := by decide

theorem witness_WaveFirstSampleAfterTrigger :
    playing.fault = none ∧ playing.ctl.seqStep ≤ 7 ∧ (0x87 : Byte).getLsbD 7 = true ∧
    2 ≤ (2048 - ((0x87 : Byte).toNat % 8 * 256 + playing.regs.nr33.toNat)) * 2 := by decide

/-- Narrow mode in `playing`, wide mode in the reset state with NR43 = 0. -/
theorem witness_NoiseFirstShiftAfterTrigger :
    playing.fault = none ∧ playing.ctl.seqStep ≤ 7 ∧ (0x80 : Byte).getLsbD 7 = true ∧
    playing.regs.nr43.toNat % 8 = 0 ∧ playing.regs.nr43.toNat / 16 = 0 ∧ 8 ≤ noiseReload playing.regs.nr43 ∧
    playing.regs.nr43.getLsbD 3 = true ∧ State.reset.regs.nr43.getLsbD 3 = false := by decide

theorem witness_BufferFlushesOnSchedule : configValid standardConfig = true ∧
    sampleReload standardConfig * (standardConfig.bufferCapacity / 2) = 190 := by decide

theorem witness_SequencerTicksOnSchedule : configValid standardConfig = true ∧ seqReload standardConfig = 8192 := by decide

/-- For each channel, two states that differ in every other channel and agree on what the claim names. -/
theorem witness_ChannelsDoNotReadEachOther (c : Channel) :
    playing ≠ aloneFrom c ∧ exec .cycle playing = .next (after .cycle playing) ∧
    exec .cycle (aloneFrom c) = .next (after .cycle (aloneFrom c)) ∧ playing.config = (aloneFrom c).config ∧
    playing.fault = (aloneFrom c).fault ∧ playing.ctl = (aloneFrom c).ctl ∧ playing.regs = (aloneFrom c).regs ∧
    chanOf playing c = chanOf (aloneFrom c) c := by
  cases c <;> exact ⟨by decide, rfl, rfl, rfl, rfl, rfl, rfl, rfl⟩

theorem witness_InertRegistersChangeNothing :
    Instr.cycle ≠ .rdNr52 ∧ exec .cycle playing = .next (after .cycle playing) ∧
    (0xFF : Byte) &&& 0x77 = playing.regs.nr50 &&& 0x77 := ⟨by decide, rfl, by decide⟩

end Sys2Proof.Machine.Tests
end

section
/-! Lemmas and proofs for the statements of 00_scope.md: the step of a decoded stimulus (O7), the frame of CYCLE (O36),
and the registers nothing reads (O60). -/

namespace Sys2Proof.Machine
open Sys2Proof

/-! ### One step -/

/-- With a configuration the model takes, a pending word that decodes is run on the state without it (R112, R513). -/
theorem step_of_decode {s : State} {w : StimulusWord} {rest : List StimulusWord} {i : Instr}
    (hc : configValid s.config = true) (hp : s.pending = w :: rest) (hd : decode w = .ok i) :
    step s = exec i { s with pending := rest } := by
  simp only [step, hc, if_true, takeStimulus_cons hp, hd]

/-- Settles O7: the three choices `step` makes are the three hypotheses. -/
theorem stepRunsTheDecodedStimulus : Obligations.StepRunsTheDecodedStimulus := by
  unfold Obligations.StepRunsTheDecodedStimulus
  intro s w rest i hc hp hd
  exact step_of_decode hc hp hd

/-! ### The frame of CYCLE -/

/-- A number below 8 has none of the bits 7-3 of a byte. -/
theorem ofNat_and_F8_of_lt {n : Nat} (h : n < 8) : BitVec.ofNat 8 n &&& 0xF8 = 0#8 := by
  interval_cases n <;> rfl

/-- A commit keeps bits 7-3 of NR14 (R305). -/
theorem commitRegs_nr14_high (n : Nat) (f : RegFile) : (commitRegs n f).nr14 &&& 0xF8 = f.nr14 &&& 0xF8 := by
  have hlow : BitVec.ofNat 8 (n / 256 % 8) &&& 0xF8 = 0#8 := ofNat_and_F8_of_lt (Nat.mod_lt _ (by decide))
  change (f.nr14 &&& 0xF8 ||| BitVec.ofNat 8 (n / 256 % 8)) &&& 0xF8 = _
  rw [BitVec.and_or_distrib_right, hlow, BitVec.and_assoc, BitVec.and_self, BitVec.or_zero]

/-- The sweep clock keeps bits 7-3 of NR14 (R305). -/
theorem sweepClock_nr14_high (f : RegFile) (w : Sweep) : (sweepClock f w).2.nr14 &&& 0xF8 = f.nr14 &&& 0xF8 := by
  rcases sweepClock_cases f w with ⟨_, h⟩ | ⟨_, _, h⟩ | ⟨_, _, _, _, _, h⟩ | ⟨_, _, _, _, h⟩ <;> rw [h]
  exact commitRegs_nr14_high _ f

/-- The registers after the sequencer's part of a CYCLE are those before it or those a sweep clock leaves (R420). -/
theorem sequencerPhase_regs {s : State} (hf : s.fault = none) (hk : s.ctl.seqStep ≤ 7) :
    (sequencerPhase s).regs = s.regs ∨ (sequencerPhase s).regs = (sweepClock s.regs s.ch1.toSweep).2 := by
  rw [sequencerPhase_spec hf hk]
  exact (ite_eq_or_eq _ _ _).symm

/-- The sequencer's part writes no register but NR13 and NR14. -/
theorem sequencerPhase_regs_frame {s : State} (hf : s.fault = none) (hk : s.ctl.seqStep ≤ 7) :
    (sequencerPhase s).regs =
      { s.regs with nr13 := (sequencerPhase s).regs.nr13, nr14 := (sequencerPhase s).regs.nr14 } := by
  rcases sequencerPhase_regs hf hk with h | h <;> rw [h]
  exact sweepClock_regs _ _

theorem sequencerPhase_nr14_high {s : State} (hf : s.fault = none) (hk : s.ctl.seqStep ≤ 7) :
    (sequencerPhase s).regs.nr14 &&& 0xF8 = s.regs.nr14 &&& 0xF8 := by
  rcases sequencerPhase_regs hf hk with h | h <;> rw [h]
  exact sweepClock_nr14_high _ _

theorem sequencerPhase_wave {s : State} (hf : s.fault = none) (hk : s.ctl.seqStep ≤ 7) :
    (sequencerPhase s).ch3.wave = s.ch3.wave := by
  rw [sequencerPhase_spec hf hk]

/-- The sequencer's part leaves what the host fixed and sees: the configuration, the stimuli and the answers. -/
theorem sequencerPhase_inputs {s : State} (hf : s.fault = none) (hk : s.ctl.seqStep ≤ 7) :
    (sequencerPhase s).config = s.config ∧ (sequencerPhase s).pending = s.pending ∧
    (sequencerPhase s).answers = s.answers := by
  rw [sequencerPhase_spec hf hk]
  exact ⟨rfl, rfl, rfl⟩

@[simp] theorem stepAll_wave (s : State) : (stepAll s).ch3.wave = s.ch3.wave := by simp [stepAll_spec]

/-- Settles O36: only the sequencer's part of a CYCLE writes registers, and no part writes the wave table or the
inputs. -/
theorem cycleFrame : Obligations.CycleFrame := by
  unfold Obligations.CycleFrame
  intro s hf hk
  have hwave : (downsample (stepAll (sequencerPhase s))).ch3.wave = s.ch3.wave := by
    rw [downsample_ch3, stepAll_wave, sequencerPhase_wave hf hk]
  exact ⟨_, execCycle_inRange hf hk, sequencerPhase_regs_frame hf hk, sequencerPhase_nr14_high hf hk,
    fun a => by rw [hwave], hwave, sequencerPhase_inputs hf hk⟩

/-! ### The registers nothing reads

`withInert` puts other bytes into NR20, NR40 and NR52. An operation ignores the inert registers if from such a state it
leads to the state it leads to from the first one, but for those three bytes; this passes through composition and
through every branch that looks at other parts of the state. -/

/-- Other bytes in NR20, NR40 and NR52. -/
def RegFile.withInert (a b c : Byte) (f : RegFile) : RegFile := { f with nr20 := a, nr40 := b, nr52 := c }

/-- The state with other bytes in NR20, NR40 and NR52. -/
def State.withInert (a b c : Byte) (s : State) : State := { s with regs := s.regs.withInert a b c }

/-- From states that differ only in NR20, NR40 and NR52 the operation leads to states that differ only there. -/
def IgnoresInert (f : State → State) : Prop :=
  ∀ (s : State) (a b c : Byte), ∃ a' b' c', f (s.withInert a b c) = (f s).withInert a' b' c'

/-- An operation that commutes with every change of the inert registers ignores them. -/
theorem IgnoresInert.of_commute {f : State → State}
    (h : ∀ (s : State) (a b c : Byte), f (s.withInert a b c) = (f s).withInert a b c) : IgnoresInert f :=
  fun s a b c => ⟨a, b, c, h s a b c⟩

theorem IgnoresInert.comp {f g : State → State} (hg : IgnoresInert g) (hf : IgnoresInert f) :
    IgnoresInert (fun s => g (f s)) := by
  intro s a b c
  obtain ⟨a', b', c', h⟩ := hf s a b c
  obtain ⟨a'', b'', c'', h'⟩ := hg (f s) a' b' c'
  exact ⟨a'', b'', c'', by simp only [h, h']⟩

/-- A branch on a condition the inert registers do not enter. -/
theorem IgnoresInert.ite {p : State → Prop} [DecidablePred p] {f g : State → State}
    (hp : ∀ (s : State) (a b c : Byte), p (s.withInert a b c) ↔ p s) (hf : IgnoresInert f) (hg : IgnoresInert g) :
    IgnoresInert (fun s => if p s then f s else g s) := by
  intro s a b c
  by_cases h : p s
  · simpa only [hp, h, if_true] using hf s a b c
  · simpa only [hp, h, if_false] using hg s a b c

theorem ignoresInert_id : IgnoresInert (fun s => s) := .of_commute fun _ _ _ _ => rfl

theorem IgnoresInert.unlessFaulted {f : State → State} (hf : IgnoresInert f) : IgnoresInert (unlessFaulted f) :=
  .ite (fun _ _ _ _ => Iff.rfl) ignoresInert_id hf

theorem IgnoresInert.applyIf {f : State → State} (runs : Bool) (hf : IgnoresInert f) :
    IgnoresInert (applyIf runs f) :=
  .ite (fun _ _ _ _ => Iff.rfl) hf ignoresInert_id

theorem IgnoresInert.whenTriggerBit {f : State → State} (d : Byte) (hf : IgnoresInert f) :
    IgnoresInert (whenTriggerBit d f) :=
  .ite (fun _ _ _ _ => Iff.rfl) hf ignoresInert_id

/-- A stimulus whose effect ignores the inert registers has outcomes that differ only there. -/
theorem IgnoresInert.stimulus_next {f : State → State} (hf : IgnoresInert f) {s t : State} (a b c : Byte)
    (h : stimulus f s = .next t) : ∃ a' b' c', stimulus f (s.withInert a b c) = .next (t.withInert a' b' c') := by
  obtain ⟨a', b', c', h'⟩ := hf.unlessFaulted s a b c
  exact ⟨a', b', c', by rw [stimulus, h', Machine.stimulus_next.mp h]⟩

/-! #### READs, WRITEs and triggers -/

/-- NR20 and NR40 read as 0xFF, whatever they hold (R261, R381). -/
theorem maskedRead_withInert (f : RegFile) (a b c : Byte) {r : Reg} (h : r ≠ .nr52) :
    regGet (f.withInert a b c) r ||| readMask r = regGet f r ||| readMask r := by
  cases r with
  | nr52 => exact absurd rfl h
  | nr20 | nr40 => exact BitVec.or_allOnes.trans BitVec.or_allOnes.symm
  | _ => rfl

theorem ignoresInert_giveAnswer (a : Answer) : IgnoresInert (giveAnswer a) := .of_commute fun _ _ _ _ => rfl

theorem ignoresInert_answerReg {r : Reg} (h : r ≠ .nr52) : IgnoresInert (answerReg r) := by
  refine .of_commute fun s a b c => ?_
  change giveAnswer (.byte (regGet (s.regs.withInert a b c) r ||| readMask r)) (s.withInert a b c) = _
  rw [maskedRead_withInert s.regs a b c h]
  rfl

/-- A WRITE of an inert register leaves the written byte in both states; any other WRITE leaves the three bytes. -/
theorem ignoresInert_storeReg (r : Reg) (d : Byte) : IgnoresInert (storeReg r d) := by
  intro s a b c
  cases r with
  | nr20 => exact ⟨d, b, c, rfl⟩
  | nr40 => exact ⟨a, d, c, rfl⟩
  | nr52 => exact ⟨a, b, d, rfl⟩
  | _ => exact ⟨a, b, c, rfl⟩

theorem ignoresInert_readWave (k : Nat) : IgnoresInert (readWave k) :=
  .ite (fun _ _ _ _ => Iff.rfl) (.of_commute fun _ _ _ _ => rfl) (.of_commute fun _ _ _ _ => rfl)

theorem ignoresInert_writeWave (k : Nat) (d : Byte) : IgnoresInert (writeWave k d) := by
  refine .of_commute fun s a b c => ?_
  have hindex : waveWriteIndex k (s.withInert a b c) = waveWriteIndex k s := rfl
  cases h : waveWriteIndex k s with
  | some j =>
    simp only [writeWave, hindex, h]
    rfl
  | none => simp only [writeWave, hindex, h]

/-! #### CYCLE -/

@[simp] theorem RegFile.withInert_nr10 (f : RegFile) (a b c : Byte) : (f.withInert a b c).nr10 = f.nr10 := rfl

theorem commitRegs_withInert (n : Nat) (f : RegFile) (a b c : Byte) :
    commitRegs n (f.withInert a b c) = (commitRegs n f).withInert a b c := rfl

/-- The sweep's calculation reads NR10 and the sweep, and carries the inert registers along (R304, R305). -/
theorem sweepUpdate_withInert (f : RegFile) (w : Sweep) (a b c : Byte) :
    sweepUpdate (f.withInert a b c) w = ((sweepUpdate f w).1, (sweepUpdate f w).2.withInert a b c) := by
  by_cases h : sweepTarget f.nr10 w.shadow ≤ 2047 ∧ 0 < sweepShift f.nr10 <;>
    simp [sweepUpdate, h, commitRegs_withInert]

theorem sweepClock_withInert (f : RegFile) (w : Sweep) (a b c : Byte) :
    sweepClock (f.withInert a b c) w = ((sweepClock f w).1, (sweepClock f w).2.withInert a b c) := by
  simp only [sweepClock, RegFile.withInert_nr10, sweepUpdate_withInert]
  split
  · split <;> rfl
  · rfl

theorem ignoresInert_sweepTick : IgnoresInert sweepTick := by
  refine .of_commute fun s a b c => ?_
  have h := sweepClock_withInert s.regs s.ch1.toSweep a b c
  simp only [sweepTick, State.withInert, h]

theorem ignoresInert_subClocks (k : Nat) (c : Channel) : IgnoresInert (fun s => subClocks k s c) := by
  have hlen1 : IgnoresInert lengthTick1 := .of_commute fun _ _ _ _ => rfl
  have hlen2 : IgnoresInert lengthTick2 := .of_commute fun _ _ _ _ => rfl
  have hlen3 : IgnoresInert lengthTick3 := .of_commute fun _ _ _ _ => rfl
  have hlen4 : IgnoresInert lengthTick4 := .of_commute fun _ _ _ _ => rfl
  have henv1 : IgnoresInert envelopeTick1 := .of_commute fun _ _ _ _ => rfl
  have henv2 : IgnoresInert envelopeTick2 := .of_commute fun _ _ _ _ => rfl
  have henv4 : IgnoresInert envelopeTick4 := .of_commute fun _ _ _ _ => rfl
  cases c with
  | ch1 => exact (henv1.applyIf _).comp ((ignoresInert_sweepTick.applyIf _).comp (hlen1.applyIf _))
  | ch2 => exact (henv2.applyIf _).comp (hlen2.applyIf _)
  | ch3 => exact hlen3.applyIf _
  | ch4 => exact (henv4.applyIf _).comp (hlen4.applyIf _)

theorem ignoresInert_tickChannel (c : Channel) (k : Nat) : IgnoresInert (tickChannel c k) :=
  .unlessFaulted (.ite (fun _ _ _ _ => Iff.rfl) (.of_commute fun _ _ _ _ => rfl) (ignoresInert_subClocks k c))

theorem ignoresInert_tickAll (k : Nat) : IgnoresInert (tickAll k) :=
  (ignoresInert_tickChannel .ch4 k).comp ((ignoresInert_tickChannel .ch3 k).comp
    ((ignoresInert_tickChannel .ch2 k).comp (ignoresInert_tickChannel .ch1 k)))

theorem ignoresInert_sequencerPhase : IgnoresInert sequencerPhase := by
  have hadvance : IgnoresInert advanceSequencer := .of_commute fun _ _ _ _ => rfl
  have hcount : IgnoresInert countSequencer := .of_commute fun _ _ _ _ => rfl
  refine .ite (fun _ _ _ _ => Iff.rfl) (fun s => ?_) hcount
  exact (hadvance.unlessFaulted.comp ((ignoresInert_tickAll s.ctl.seqStep).comp hcount)) s

theorem ignoresInert_masterCycle : IgnoresInert masterCycle := by
  have hstep : IgnoresInert stepAll := .of_commute fun _ _ _ _ => rfl
  have hmix : IgnoresInert downsample := .of_commute fun _ _ _ _ => rfl
  exact (hmix.comp hstep).unlessFaulted.comp ignoresInert_sequencerPhase

/-! #### Every instruction -/

/-- Every instruction but a READ of NR52 is a stimulus whose effect ignores the inert registers. -/
theorem exec_eq_stimulus_ignoresInert {i : Instr} (hi : i ≠ .rdNr52) :
    ∃ f, IgnoresInert f ∧ ∀ s, exec i s = stimulus f s := by
  cases i with
  | rdNr52 => exact absurd rfl hi
  | rdNr10 | rdNr11 | rdNr12 | rdNr13 | rdNr14 | rdNr20 | rdNr21 | rdNr22 | rdNr23 | rdNr24 | rdNr30 | rdNr31 | rdNr32
  | rdNr33 | rdNr34 | rdNr40 | rdNr41 | rdNr42 | rdNr43 | rdNr44 | rdNr50 | rdNr51 =>
    exact ⟨answerReg _, ignoresInert_answerReg (by decide), fun _ => rfl⟩
  | wrNr10 d | wrNr12 d | wrNr13 d | wrNr20 d | wrNr22 d | wrNr23 d | wrNr30 d | wrNr32 d | wrNr33 d | wrNr40 d
  | wrNr42 d | wrNr43 d | wrNr50 d | wrNr51 d | wrNr52 d =>
    exact ⟨_, ignoresInert_storeReg _ d, fun _ => rfl⟩
  | wrNr11 d | wrNr21 d | wrNr31 d | wrNr41 d =>
    exact ⟨_, IgnoresInert.comp (.of_commute fun _ _ _ _ => rfl) (ignoresInert_storeReg _ d), fun _ => rfl⟩
  | wrNr14 d | wrNr24 d | wrNr34 d | wrNr44 d =>
    exact ⟨_, (IgnoresInert.whenTriggerBit d (.of_commute fun _ _ _ _ => rfl)).comp (ignoresInert_storeReg _ d),
      fun _ => rfl⟩
  | rdUnused27 | rdUnused28 | rdNoData => exact ⟨_, ignoresInert_giveAnswer _, fun _ => rfl⟩
  | wrUnused27 | wrUnused28 | wrNoData => exact ⟨_, ignoresInert_id, fun _ => rfl⟩
  | rdWave k => exact ⟨_, ignoresInert_readWave k.toNat, fun _ => rfl⟩
  | wrWave k d => exact ⟨_, ignoresInert_writeWave k.toNat d, fun _ => rfl⟩
  | cycle => exact ⟨_, ignoresInert_masterCycle, fun _ => rfl⟩

/-! #### The VIN bits of NR50 -/

/-- The left volume is a field of the bits 6-4 and 2-0 of NR50 (R61). -/
theorem leftVolume_and_77 (d : Byte) : leftVolume (d &&& 0x77) = leftVolume d := by
  have hmask : (0x77 : Byte).extractLsb' 4 3 = BitVec.allOnes 3 := by decide
  rw [leftVolume, BitVec.extractLsb'_and, hmask, BitVec.and_allOnes, leftVolume]

theorem rightVolume_and_77 (d : Byte) : rightVolume (d &&& 0x77) = rightVolume d := by
  have hmask : (0x77 : Byte).extractLsb' 0 3 = BitVec.allOnes 3 := by decide
  rw [rightVolume, BitVec.extractLsb'_and, hmask, BitVec.and_allOnes, rightVolume]

/-- The mixer reads NR50 through its two volumes only (R427). -/
theorem mixLeft_nr50 (s : State) (v : Byte) (h : leftVolume v = leftVolume s.regs.nr50) :
    mixLeft { s with regs := { s.regs with nr50 := v } } = mixLeft s :=
  congrArg (fun n => BitVec.ofNat 8 (mixSide (sideSum (routedLeft s.regs.nr51) s) n s.config)) h

theorem mixRight_nr50 (s : State) (v : Byte) (h : rightVolume v = rightVolume s.regs.nr50) :
    mixRight { s with regs := { s.regs with nr50 := v } } = mixRight s :=
  congrArg (fun n => BitVec.ofNat 8 (mixSide (sideSum (routedRight s.regs.nr51) s) n s.config)) h

/-- Settles O60: every effect but a READ of NR52 ignores the inert registers, and the volumes ignore the VIN bits. -/
theorem inertRegistersChangeNothing : Obligations.InertRegistersChangeNothing := by
  unfold Obligations.InertRegistersChangeNothing
  refine ⟨fun i s t a b c hi h => ?_, fun s v hv => ⟨mixLeft_nr50 s v ?_, mixRight_nr50 s v ?_⟩⟩
  · obtain ⟨f, hf, hexec⟩ := exec_eq_stimulus_ignoresInert hi
    rw [hexec] at h
    rw [hexec]
    exact hf.stimulus_next a b c h
  · rw [← leftVolume_and_77 v, hv, leftVolume_and_77]
  · rw [← rightVolume_and_77 v, hv, rightVolume_and_77]

end Sys2Proof.Machine
end

section
/-! Lemmas and proofs for the statements of 10_state.md: what a step can do, and that none answers a fault (O9); the
invariant (O45, O46); the reset state and its reads (O47); a WRITE to the wave table (O29, O30). -/

namespace Sys2Proof.Machine
open Sys2Proof

/-! ### What a step can do -/

/-- The effects instructions have on a machine without a fault: the model's named operations, one after another or
behind the trigger bit. -/
inductive Effect : (State → State) → Prop
  | idle : Effect (fun s => s)
  | answer (a : State → Answer) : Effect (fun s => giveAnswer (a s) s)
  | store (r : Reg) (d : Byte) : Effect (storeReg r d)
  | loadLength1 : Effect loadLengthCh1
  | loadLength2 : Effect loadLengthCh2
  | loadLength3 : Effect loadLengthCh3
  | loadLength4 : Effect loadLengthCh4
  | trigger1 : Effect triggerCh1
  | trigger2 : Effect triggerCh2
  | trigger3 : Effect triggerCh3
  | trigger4 : Effect triggerCh4
  | readWave (k : BitVec 4) : Effect (readWave k.toNat)
  | writeWave (k : BitVec 4) (d : Byte) : Effect (writeWave k.toNat d)
  | cycle : Effect masterCycle
  | whenTriggerBit {f : State → State} (d : Byte) (hf : Effect f) : Effect (whenTriggerBit d f)
  | comp {f g : State → State} (hg : Effect g) (hf : Effect f) : Effect (fun s => g (f s))

/-- Every instruction is a stimulus with such an effect. -/
theorem exec_eq_stimulus_effect (i : Instr) : ∃ f, Effect f ∧ ∀ s, exec i s = stimulus f s := by
  cases i with
  | rdNr10 | rdNr11 | rdNr12 | rdNr13 | rdNr14 | rdNr20 | rdNr21 | rdNr22 | rdNr23 | rdNr24 | rdNr30 | rdNr31 | rdNr32
  | rdNr33 | rdNr34 | rdNr40 | rdNr41 | rdNr42 | rdNr43 | rdNr44 | rdNr50 | rdNr51 | rdNr52 | rdUnused27 | rdUnused28
  | rdNoData => exact ⟨_, .answer _, fun _ => rfl⟩
  | wrNr10 d | wrNr12 d | wrNr13 d | wrNr20 d | wrNr22 d | wrNr23 d | wrNr30 d | wrNr32 d | wrNr33 d | wrNr40 d
  | wrNr42 d | wrNr43 d | wrNr50 d | wrNr51 d | wrNr52 d => exact ⟨_, .store _ d, fun _ => rfl⟩
  | wrNr11 d => exact ⟨_, .comp .loadLength1 (.store _ d), fun _ => rfl⟩
  | wrNr21 d => exact ⟨_, .comp .loadLength2 (.store _ d), fun _ => rfl⟩
  | wrNr31 d => exact ⟨_, .comp .loadLength3 (.store _ d), fun _ => rfl⟩
  | wrNr41 d => exact ⟨_, .comp .loadLength4 (.store _ d), fun _ => rfl⟩
  | wrNr14 d => exact ⟨_, .comp (.whenTriggerBit d .trigger1) (.store _ d), fun _ => rfl⟩
  | wrNr24 d => exact ⟨_, .comp (.whenTriggerBit d .trigger2) (.store _ d), fun _ => rfl⟩
  | wrNr34 d => exact ⟨_, .comp (.whenTriggerBit d .trigger3) (.store _ d), fun _ => rfl⟩
  | wrNr44 d => exact ⟨_, .comp (.whenTriggerBit d .trigger4) (.store _ d), fun _ => rfl⟩
  | wrUnused27 | wrUnused28 | wrNoData => exact ⟨_, .idle, fun _ => rfl⟩
  | rdWave k => exact ⟨_, .readWave k, fun _ => rfl⟩
  | wrWave k d => exact ⟨_, .writeWave k d, fun _ => rfl⟩
  | cycle => exact ⟨_, .cycle, fun _ => rfl⟩

/-- An instruction leaves the state alone, or leads to what such an effect makes of it. -/
theorem exec_next_effect {i : Instr} {s t : State} (h : exec i s = .next t) :
    ∃ f, Effect f ∧ t = unlessFaulted f s := by
  obtain ⟨f, hf, hexec⟩ := exec_eq_stimulus_effect i
  exact ⟨f, hf, stimulus_next.mp (hexec s ▸ h)⟩

/-- A step refuses, waits, or runs an instruction on the state without the stimulus it has taken. -/
theorem step_cases (s : State) :
    (∃ r, step s = .refused r) ∨ step s = .next s ∨ ∃ i rest, step s = exec i { s with pending := rest } := by
  by_cases hc : configValid s.config = true
  · cases hp : s.pending with
    | nil => exact .inr (.inl (by simp only [step, hc, if_true, takeStimulus_nil hp]))
    | cons w rest =>
      cases hd : decode w with
      | ok i => exact .inr (.inr ⟨i, rest, step_of_decode hc hp hd⟩)
      | error e => exact .inl ⟨.reservedWord w e, by simp only [step, hc, if_true, takeStimulus_cons hp, hd]⟩
  · exact .inl ⟨.badConfiguration, by simp only [step, hc, Bool.false_eq_true, if_false]⟩

/-- A step that answers a next state waited, or ran an instruction. -/
theorem step_next_cases {s t : State} (h : step s = .next t) :
    t = s ∨ ∃ i rest, exec i { s with pending := rest } = .next t := by
  rcases step_cases s with ⟨r, h'⟩ | h' | ⟨i, rest, h'⟩ <;> rw [h'] at h
  · cases h
  · cases h
    exact .inl rfl
  · exact .inr ⟨i, rest, h⟩

theorem exec_completes (i : Instr) (s : State) : ∃ t, exec i s = .next t := by
  obtain ⟨f, h⟩ := exec_eq_stimulus i s
  exact ⟨_, h⟩

/-! ### The configuration is never written -/

@[simp] theorem tickAll_config (k : Nat) (s : State) : (tickAll k s).config = s.config := by
  have hsub : ∀ (c : Channel) (u : State), (subClocks k u c).config = u.config := by
    intro c u
    cases c <;> simp only [subClocks, applyIf] <;> (repeat' split) <;> rfl
  have htick : ∀ (c : Channel) (u : State), (tickChannel c k u).config = u.config := by
    intro c u
    refine unlessFaulted_ind (P := fun t => t.config = u.config) rfl ?_
    split
    · rfl
    · exact hsub c u
  simp only [tickAll, htick]

theorem sequencerPhase_config (s : State) : (sequencerPhase s).config = s.config := by
  unfold sequencerPhase
  split
  · exact unlessFaulted_ind (P := fun t => t.config = s.config) (tickAll_config _ _) (tickAll_config _ _)
  · rfl

theorem masterCycle_config (s : State) : (masterCycle s).config = s.config :=
  unlessFaulted_ind (P := fun t => t.config = s.config) (sequencerPhase_config s) (sequencerPhase_config s)

/-- No effect writes the parameters of R8. -/
theorem Effect.config {f : State → State} (hf : Effect f) (s : State) : (f s).config = s.config := by
  induction hf generalizing s with
  | idle | answer | store | loadLength1 | loadLength2 | loadLength3 | loadLength4 | trigger1 | trigger2 | trigger3
  | trigger4 => rfl
  | readWave k =>
    unfold Machine.readWave
    split <;> rfl
  | writeWave k d => rcases writeWave_cases k.toNat d s with ⟨j, _, h⟩ | ⟨_, h⟩ <;> rw [h]
  | cycle => exact masterCycle_config s
  | whenTriggerBit d _ ih => exact whenTriggerBit_ind (P := fun t => t.config = s.config) rfl (ih s)
  | comp _ _ ihg ihf => exact (ihg _).trans (ihf s)

theorem exec_config {i : Instr} {s t : State} (h : exec i s = .next t) : t.config = s.config := by
  obtain ⟨f, hf, rfl⟩ := exec_next_effect h
  exact unlessFaulted_ind (P := fun t => t.config = s.config) rfl (hf.config s)

/-- Settles O9: every instruction's meaning is a stimulus, which completes and writes no parameter. -/
theorem everyStimulusCompletes : Obligations.EveryStimulusCompletes := by
  unfold Obligations.EveryStimulusCompletes
  refine ⟨exec_completes, fun s r h => ?_, fun s t h => ?_⟩
  · rcases step_cases s with ⟨r', h'⟩ | h' | ⟨i, rest, h'⟩ <;> rw [h'] at h
    · cases h
    · cases h
    · obtain ⟨t, ht⟩ := exec_completes i { s with pending := rest }
      rw [ht] at h
      cases h
  · rcases step_next_cases h with rfl | ⟨i, rest, h'⟩
    · rfl
    · exact exec_config (s := { s with pending := rest }) h'

/-! ### The ranges the parts of the state keep -/

/-- The length clock lowers the length or leaves it, and touches no other counter (R203). -/
theorem lengthClock_inRange {m r : Nat} {c : Chan} (h : ChanInRange m r c) (nrx4 : Byte) :
    ChanInRange m r (lengthClock nrx4 c) where
  length := by
    have := h.length
    rw [lengthClock_length]
    split <;> omega
  timer := (lengthClock_timer nrx4 c).trans_le h.timer
  amp := (lengthClock_amp nrx4 c).trans_le h.amp

/-- A length load keeps the range if the new length is in it (R202). -/
theorem loadLength_inRange {m r n : Nat} {c : Chan} (h : ChanInRange m r c) (hn : n ≤ m) :
    ChanInRange m r { c with length := n } := ⟨hn, h.timer, h.amp⟩

theorem chanTrigger_inRange {m r n : Nat} {c : Chan} (h : ChanInRange m r c) (hn : n ≤ r) (on : Bool) :
    ChanInRange m r (chanTrigger m n on c) where
  length := by
    have := h.length
    unfold chanTrigger
    dsimp only
    split <;> omega
  timer := hn
  amp := Nat.zero_le 15

theorem countTimer_inRange {m r : Nat} {c : Chan} (h : ChanInRange m r c) :
    ChanInRange m r { c with timer := c.timer - 1 } := ⟨h.length, (Nat.sub_le _ _).trans h.timer, h.amp⟩

/-- At an expiry the timer is reloaded and the amplitude set; the length stays (R207). -/
theorem advance_inRange {m r n a : Nat} {c : Chan} (h : ChanInRange m r c) (hn : n ≤ r) (ha : a ≤ 15) :
    ChanInRange m r { c with timer := n, amp := a } := ⟨h.length, hn, ha⟩

theorem envPeriod_le (d : Byte) : envPeriod d ≤ 7 := by
  rw [envPeriod_eq]
  omega

/-- Each of the four things the envelope clock can do keeps volume and timer in range (R205). -/
theorem envelopeClock_inRange {e : Envelope} (h : EnvelopeInRange e) (nrx2 : Byte) :
    EnvelopeInRange (envelopeClock nrx2 e) := by
  have hvol := h.vol
  have htimer := h.envTimer
  have hperiod := envPeriod_le nrx2
  rcases envelopeClock_cases nrx2 e with ⟨_, h'⟩ | ⟨_, _, h'⟩ | ⟨_, _, _, h'⟩ | ⟨_, _, _, h'⟩ <;> rw [h']
  · exact h
  · exact ⟨hvol, by dsimp only; omega⟩
  · exact ⟨hvol, by dsimp only; omega⟩
  · exact ⟨movedVol_le hvol, hperiod.trans (by decide)⟩

theorem envelopeReload_inRange (nrx2 : Byte) : EnvelopeInRange (envelopeReload nrx2) where
  vol := by
    have := nrx2.isLt
    change envVolume nrx2 ≤ 15
    rw [envVolume_eq]
    omega
  envTimer := by
    have := envPeriod_le nrx2
    unfold envelopeReload
    dsimp only
    split <;> omega

theorem sweepReload_le (nr10 : Byte) : sweepReload nr10 ≤ 8 := by
  have := sweepPeriod_eq nr10
  unfold sweepReload
  split <;> omega

/-- `calc()` writes the overflow flag only (R301). -/
theorem sweepCheck_inRange {w : Sweep} (h : SweepInRange w) (nr10 : Byte) : SweepInRange (sweepCheck nr10 w) :=
  ⟨(sweepCheck_shadow nr10 w).trans_le h.shadow, (sweepCheck_sweepTimer nr10 w).trans_le h.sweepTimer⟩

/-- The sweep clock counts or reloads its timer, and commits only a frequency of at most 2047 (R304, R305). -/
theorem sweepClock_inRange {w : Sweep} (h : SweepInRange w) (f : RegFile) : SweepInRange (sweepClock f w).1 := by
  have hreload := sweepReload_le f.nr10
  rcases sweepClock_cases f w with ⟨_, h'⟩ | ⟨_, _, h'⟩ | ⟨_, _, _, hn, _, h'⟩ | ⟨_, _, _, _, h'⟩ <;> rw [h']
  · exact ⟨h.shadow, (Nat.sub_le _ _).trans h.sweepTimer⟩
  · exact ⟨h.shadow, hreload⟩
  · exact sweepCheck_inRange ⟨hn, hreload⟩ _
  · exact sweepCheck_inRange (w := { w with sweepTimer := sweepReload f.nr10 }) ⟨h.shadow, hreload⟩ _

theorem sweepTrigger_inRange (f : RegFile) : SweepInRange (sweepTrigger f) := by
  have h : SweepInRange (sweepReloaded f) := ⟨frequency_le _ _, sweepReload_le _⟩
  unfold sweepTrigger
  split
  · exact sweepCheck_inRange h _
  · exact h

/-! ### Channel steps -/

theorem pulseReload_le (f : Nat) : pulseReload f ≤ 8192 := by
  unfold pulseReload
  omega

theorem waveReload_le (f : Nat) : waveReload f ≤ 4096 := by
  unfold waveReload
  omega

/-- The largest divisor, shifted by the largest shift (R391). -/
theorem noiseReload_le (nr43 : Byte) : noiseReload nr43 ≤ 3670016 := by
  have hlt := nr43.isLt
  have hdivisor : (if nr43.toNat % 8 = 0 then 8 else 16 * (nr43.toNat % 8)) ≤ 112 := by split <;> omega
  have hshift : 2 ^ (nr43.toNat / 16) ≤ 2 ^ 15 := Nat.pow_le_pow_right (by decide) (by omega)
  rw [noiseReload_eq]
  exact Nat.mul_le_mul hdivisor hshift

theorem nextPhase_le (p : Nat) : nextPhase p ≤ 7 := Nat.le_of_lt_succ (Nat.mod_lt _ (by decide))

theorem nextPos_le (p : Nat) : nextPos p ≤ 31 := Nat.le_of_lt_succ (Nat.mod_lt _ (by decide))

theorem pulseAmp_le {vol : Nat} (h : vol ≤ 15) (c : Config) (nrx1 : Byte) (p : Nat) : pulseAmp c nrx1 p vol ≤ 15 := by
  unfold pulseAmp
  split <;> omega

theorem noiseAmp_le {vol : Nat} (h : vol ≤ 15) (x : BitVec 15) : noiseAmp x vol ≤ 15 := by
  unfold noiseAmp
  split <;> omega

/-- A sample has four bits (R348). -/
theorem waveSample_le (c : Ch3) (p : Nat) : waveSample c p ≤ 15 := by
  unfold waveSample
  split <;> exact Nat.le_of_lt_succ (BitVec.isLt _)

theorem stepped1_inRange {c : Ch1} (hc : ChanInRange 64 8192 c.toChan) (he : EnvelopeInRange c.toEnvelope)
    (hp : c.phase ≤ 7) (cfg : Config) (f : RegFile) :
    ChanInRange 64 8192 (stepped1 cfg f c).toChan ∧ (stepped1 cfg f c).phase ≤ 7 := by
  unfold stepped1
  split
  · exact ⟨advance_inRange hc (pulseReload_le _) (pulseAmp_le he.vol _ _ _), nextPhase_le _⟩
  · exact ⟨countTimer_inRange hc, hp⟩

theorem stepped2_inRange {c : Ch2} (hc : ChanInRange 64 8192 c.toChan) (he : EnvelopeInRange c.toEnvelope)
    (hp : c.phase ≤ 7) (cfg : Config) (f : RegFile) :
    ChanInRange 64 8192 (stepped2 cfg f c).toChan ∧ (stepped2 cfg f c).phase ≤ 7 := by
  unfold stepped2
  split
  · exact ⟨advance_inRange hc (pulseReload_le _) (pulseAmp_le he.vol _ _ _), nextPhase_le _⟩
  · exact ⟨countTimer_inRange hc, hp⟩

theorem stepped3_inRange {c : Ch3} (hc : ChanInRange 256 4096 c.toChan) (hp : c.pos ≤ 31) (cfg : Config) (f : RegFile) :
    ChanInRange 256 4096 (stepped3 cfg f c).toChan ∧ (stepped3 cfg f c).pos ≤ 31 := by
  unfold stepped3
  split
  · have hamp : waveSample c (nextPos c.pos) >>> waveShift (volumeCode f.nr32) ≤ 15 :=
      (Nat.shiftRight_le _ _).trans (waveSample_le _ _)
    exact ⟨advance_inRange hc (waveReload_le _) hamp, nextPos_le _⟩
  · exact ⟨countTimer_inRange hc, hp⟩

theorem stepped3_accessAge (cfg : Config) (f : RegFile) (c : Ch3) :
    (stepped3 cfg f c).accessAge = min (c.accessAge + 1) cfg.waveAccessWindow := by
  unfold stepped3
  split <;> rfl

theorem stepped4_inRange {c : Ch4} (hc : ChanInRange 64 3670016 c.toChan) (he : EnvelopeInRange c.toEnvelope)
    (f : RegFile) : ChanInRange 64 3670016 (stepped4 f c).toChan := by
  unfold stepped4
  split
  · exact advance_inRange hc (noiseReload_le _) (noiseAmp_le he.vol _)
  · exact countTimer_inRange hc

/-! ### The mixer and the downsampler -/

theorem outputAmplitude_le {s : State} (h : ∀ c, (chanOf s c).amp ≤ 15) (c : Channel) : outputAmplitude s c ≤ 15 := by
  have := h c
  unfold outputAmplitude
  split <;> omega

/-- Four channels of at most 15 each (R427). -/
theorem sideSum_le {s : State} (h : ∀ c, (chanOf s c).amp ≤ 15) (routed : Channel → Bool) : sideSum routed s ≤ 60 := by
  have hside : ∀ c, (if routed c then outputAmplitude s c else 0) ≤ 15 := by
    intro c
    have := outputAmplitude_le h c
    split <;> omega
  have h1 := hside .ch1
  have h2 := hside .ch2
  have h3 := hside .ch3
  have h4 := hside .ch4
  unfold sideSum
  omega

/-- `60 / 4 * 7` is 105 (R428). -/
theorem mixSide_le {sum volume : Nat} (hs : sum ≤ 60) (hv : volume ≤ 7) (c : Config) : mixSide sum volume c ≤ 105 :=
  (Nat.min_le_left _ _).trans (Nat.mul_le_mul (show sum / 4 ≤ 15 by omega) hv)

theorem ofNat_toNat_le {n m : Nat} (h : n ≤ m) : (BitVec.ofNat 8 n).toNat ≤ m := by
  rw [BitVec.toNat_ofNat]
  exact (Nat.mod_le _ _).trans h

theorem mixLeft_le {s : State} (h : ∀ c, (chanOf s c).amp ≤ 15) : (mixLeft s).toNat ≤ 105 := by
  have hv : leftVolume s.regs.nr50 ≤ 7 := by
    rw [leftVolume_eq]
    omega
  exact ofNat_toNat_le (mixSide_le (sideSum_le h _) hv _)

theorem mixRight_le {s : State} (h : ∀ c, (chanOf s c).amp ≤ 15) : (mixRight s).toNat ≤ 105 := by
  have hv : rightVolume s.regs.nr50 ≤ 7 := by
    rw [rightVolume_eq]
    omega
  exact ofNat_toNat_le (mixSide_le (sideSum_le h _) hv _)

theorem configValid_iff {c : Config} :
    configValid c = true ↔
      1 ≤ seqReload c ∧ 1 ≤ sampleReload c ∧ c.bufferCapacity % 2 = 0 ∧ 2 ≤ c.bufferCapacity := by
  simp [configValid, and_assoc]

/-- A pair appended to an even buffer fills it to the even capacity or leaves room for another (R430, R431). -/
theorem emitPair_inRange {cfg : Config} {k : Controller} {l r : Byte} (h : ControllerInRange cfg k)
    (hcfg : configValid cfg = true) (hl : l.toNat ≤ 105) (hr : r.toNat ≤ 105) :
    ControllerInRange cfg (emitPair cfg.bufferCapacity l r k) := by
  obtain ⟨_, _, heven, htwo⟩ := configValid_iff.mp hcfg
  have hlen : (k.buffer ++ [l, r]).length = k.buffer.length + 2 := by simp
  have hsamples : ∀ b ∈ k.buffer ++ [l, r], b.toNat ≤ 105 :=
    List.forall_mem_append.mpr ⟨h.bufferSamples, by simp [hl, hr]⟩
  by_cases hfull : k.buffer.length + 2 = cfg.bufferCapacity
  · rw [emitPair_filling hfull]
    exact { h with
      bufferEven := rfl
      bufferRoom := Nat.lt_of_lt_of_le Nat.zero_lt_two htwo
      bufferSamples := List.forall_mem_nil _
      outFull := List.forall_mem_append.mpr ⟨h.outFull, List.forall_mem_singleton.mpr (hlen.trans hfull)⟩
      outSamples := List.forall_mem_append.mpr ⟨h.outSamples, List.forall_mem_singleton.mpr hsamples⟩ }
  · have := h.bufferEven
    have := h.bufferRoom
    rw [emitPair_appending hfull]
    exact { h with
      bufferEven := by dsimp only; omega
      bufferRoom := by dsimp only; omega
      bufferSamples := hsamples }

/-- The downsampler counts, or reloads its countdown and emits a pair (R424, R429). -/
theorem downsampled_inRange {s : State} (h : ControllerInRange s.config s.ctl) (hcfg : configValid s.config = true)
    (hamp : ∀ c, (chanOf s c).amp ≤ 15) : ControllerInRange s.config (downsampled s) := by
  obtain ⟨_, hreload, _, _⟩ := configValid_iff.mp hcfg
  unfold downsampled
  split
  · have hreloaded : ControllerInRange s.config { s.ctl with sampleCount := sampleReload s.config } :=
      { h with sampleCountPos := hreload, sampleCountMax := le_rfl }
    exact emitPair_inRange hreloaded hcfg (mixLeft_le hamp) (mixRight_le hamp)
  · exact { h with
      sampleCountPos := by dsimp only; omega
      sampleCountMax := (Nat.sub_le _ _).trans h.sampleCountMax }

/-! ### CYCLE keeps the invariant -/

/-- The frame sequencer's part keeps the invariant: clocks keep ranges, and the countdown that expires is reloaded. -/
theorem sequencerPhase_inv {s : State} (h : Inv s) : Inv (sequencerPhase s) := by
  obtain ⟨hreload, _⟩ := configValid_iff.mp h.config
  rw [sequencerPhase_spec h.correct h.ctl.seqStep]
  exact { h with
    chan1 := iteInduction (motive := ChanInRange 64 8192) (fun _ => lengthClock_inRange h.chan1 _) (fun _ => h.chan1)
    chan2 := iteInduction (motive := ChanInRange 64 8192) (fun _ => lengthClock_inRange h.chan2 _) (fun _ => h.chan2)
    chan3 := iteInduction (motive := ChanInRange 256 4096) (fun _ => lengthClock_inRange h.chan3 _) (fun _ => h.chan3)
    chan4 := iteInduction (motive := ChanInRange 64 3670016) (fun _ => lengthClock_inRange h.chan4 _) (fun _ => h.chan4)
    env1 := iteInduction (motive := EnvelopeInRange) (fun _ => envelopeClock_inRange h.env1 _) (fun _ => h.env1)
    env2 := iteInduction (motive := EnvelopeInRange) (fun _ => envelopeClock_inRange h.env2 _) (fun _ => h.env2)
    env4 := iteInduction (motive := EnvelopeInRange) (fun _ => envelopeClock_inRange h.env4 _) (fun _ => h.env4)
    sweep := iteInduction (motive := SweepInRange) (fun _ => sweepClock_inRange h.sweep _) (fun _ => h.sweep)
    ctl := by
      have hstep := h.ctl.seqStep
      have hmax := h.ctl.seqCountMax
      exact { h.ctl with
        seqStep := by dsimp only; split <;> omega
        seqCountPos := iteInduction (motive := (1 ≤ ·)) (fun _ => hreload) fun hcount => by
          have := mt seqExpires_iff.mpr hcount
          omega
        seqCountMax := by dsimp only; split <;> omega } }

theorem stepAll_inv {s : State} (h : Inv s) : Inv (stepAll s) := by
  obtain ⟨hchan1, hphase1⟩ := stepped1_inRange h.chan1 h.env1 h.phase1 s.config s.regs
  obtain ⟨hchan2, hphase2⟩ := stepped2_inRange h.chan2 h.env2 h.phase2 s.config s.regs
  obtain ⟨hchan3, hpos⟩ := stepped3_inRange h.chan3 h.pos s.config s.regs
  exact { h with
    chan1 := hchan1
    chan2 := hchan2
    chan3 := hchan3
    chan4 := stepped4_inRange h.chan4 h.env4 s.regs
    env1 := (stepped1_toEnvelope s.config s.regs s.ch1).symm ▸ h.env1
    env2 := (stepped2_toEnvelope s.config s.regs s.ch2).symm ▸ h.env2
    env4 := (stepped4_toEnvelope s.regs s.ch4).symm ▸ h.env4
    sweep := (stepped1_toSweep s.config s.regs s.ch1).symm ▸ h.sweep
    phase1 := hphase1
    phase2 := hphase2
    pos := hpos
    age := (stepped3_accessAge s.config s.regs s.ch3).trans_le (Nat.min_le_right _ _)
    wave := (stepped3_wave s.config s.regs s.ch3).symm ▸ h.wave }

theorem Inv.amp {s : State} (h : Inv s) (c : Channel) : (chanOf s c).amp ≤ 15 := by
  cases c with
  | ch1 => exact h.chan1.amp
  | ch2 => exact h.chan2.amp
  | ch3 => exact h.chan3.amp
  | ch4 => exact h.chan4.amp

theorem downsample_inv {s : State} (h : Inv s) : Inv (downsample s) :=
  { h with ctl := downsampled_inRange h.ctl h.config h.amp }

theorem masterCycle_inv {s : State} (h : Inv s) : Inv (masterCycle s) := by
  rw [masterCycle_inRange h.correct h.ctl.seqStep]
  exact downsample_inv (stepAll_inv (sequencerPhase_inv h))

/-! ### READs, WRITEs and triggers keep the invariant -/

theorem readWave_inv {s : State} (h : Inv s) (k : Nat) : Inv (readWave k s) := by
  unfold readWave
  split
  · exact { h with }
  · exact { h with age := Nat.zero_le _ }

/-- The byte a wave WRITE stores to is one of the table's 16 (R342, R344). -/
theorem waveWriteIndex_le {s : State} {k j : Nat} (hk : k ≤ 15) (hp : s.ch3.pos ≤ 31)
    (h : waveWriteIndex k s = some j) : j ≤ 15 := by
  unfold waveWriteIndex at h
  split at h
  · cases h
    exact hk
  · split at h
    · cases h
      omega
    · cases h

theorem writeWave_inv {s : State} (h : Inv s) (k : BitVec 4) (d : Byte) : Inv (writeWave k.toNat d s) := by
  rcases writeWave_cases k.toNat d s with ⟨j, hj, h'⟩ | ⟨_, h'⟩ <;> rw [h']
  · have hle : j ≤ 15 := waveWriteIndex_le (Nat.le_of_lt_succ k.isLt) h.pos hj
    exact { h with wave := storeWave_wf h.wave hle }
  · exact h

/-- Every effect keeps the invariant: registers and answers do not enter it, and what an effect loads is in range. -/
theorem Effect.inv {f : State → State} (hf : Effect f) {s : State} (h : Inv s) : Inv (f s) := by
  induction hf generalizing s with
  | idle => exact h
  | answer | store => exact { h with }
  | loadLength1 => exact { h with chan1 := loadLength_inRange h.chan1 (Nat.sub_le _ _) }
  | loadLength2 => exact { h with chan2 := loadLength_inRange h.chan2 (Nat.sub_le _ _) }
  | loadLength3 => exact { h with chan3 := loadLength_inRange h.chan3 (Nat.sub_le _ _) }
  | loadLength4 => exact { h with chan4 := loadLength_inRange h.chan4 (Nat.sub_le _ _) }
  | trigger1 =>
    exact { h with
      chan1 := chanTrigger_inRange h.chan1 (pulseReload_le _) _
      env1 := envelopeReload_inRange _
      sweep := sweepTrigger_inRange _
      phase1 := Nat.zero_le _ }
  | trigger2 =>
    exact { h with
      chan2 := chanTrigger_inRange h.chan2 (pulseReload_le _) _
      env2 := envelopeReload_inRange _
      phase2 := Nat.zero_le _ }
  | trigger3 => exact { h with chan3 := chanTrigger_inRange h.chan3 (waveReload_le _) _, pos := Nat.zero_le _ }
  | trigger4 =>
    exact { h with
      chan4 := chanTrigger_inRange h.chan4 (noiseReload_le _) _
      env4 := envelopeReload_inRange _ }
  | readWave k => exact readWave_inv h k.toNat
  | writeWave k d => exact writeWave_inv h k d
  | cycle => exact masterCycle_inv h
  | whenTriggerBit d _ ih => exact whenTriggerBit_ind h (ih h)
  | comp _ _ ihg ihf => exact ihg (ihf h)

theorem exec_inv {i : Instr} {s t : State} (h : Inv s) (he : exec i s = .next t) : Inv t := by
  obtain ⟨f, hf, rfl⟩ := exec_next_effect he
  exact unlessFaulted_ind h (hf.inv h)

/-- Settles O45: a step waits or runs an instruction, whose effect keeps the invariant. -/
theorem stepKeepsInvariant : Obligations.StepKeepsInvariant := by
  unfold Obligations.StepKeepsInvariant
  intro s t h hstep
  rcases step_next_cases hstep with rfl | ⟨i, rest, he⟩
  · exact h
  · exact exec_inv (s := { s with pending := rest }) { h with } he

/-- Settles O46: every counter is 0 but the two countdowns, which a valid configuration makes at least 1. -/
theorem resetSatisfiesInvariant : Obligations.ResetSatisfiesInvariant := by
  unfold Obligations.ResetSatisfiesInvariant
  intro c hc
  obtain ⟨hseq, hsample, _, htwo⟩ := configValid_iff.mp hc
  have hchan : ∀ m r, ChanInRange m r Chan.reset := fun m r => ⟨Nat.zero_le m, Nat.zero_le r, Nat.zero_le 15⟩
  have henv : EnvelopeInRange Envelope.reset := ⟨Nat.zero_le 15, Nat.zero_le 8⟩
  exact {
    config := hc
    correct := rfl
    chan1 := hchan _ _
    chan2 := hchan _ _
    chan3 := hchan _ _
    chan4 := hchan _ _
    env1 := henv
    env2 := henv
    env4 := henv
    sweep := ⟨Nat.zero_le _, Nat.zero_le _⟩
    phase1 := Nat.zero_le _
    phase2 := Nat.zero_le _
    pos := Nat.zero_le _
    age := le_rfl
    wave := resetWith_wave_wf c
    ctl :=
      { seqStep := Nat.zero_le _
        seqCountPos := hseq
        seqCountMax := le_rfl
        sampleCountPos := hsample
        sampleCountMax := le_rfl
        bufferEven := rfl
        bufferRoom := Nat.lt_of_lt_of_le Nat.zero_lt_two htwo
        bufferSamples := List.forall_mem_nil _
        outFull := List.forall_mem_nil _
        outSamples := List.forall_mem_nil _ } }

/-! ### The reset state and its reads -/

/-- Only a register's own address names it (R80). -/
theorem eq_regAddr_of_regOfAddr {a : Addr} {r : Reg} (h : regOfAddr a = some r) : a = regAddr r := by
  apply BitVec.eq_of_toNat_eq
  unfold regOfAddr at h
  split at h <;> cases h <;> assumption

/-- The registers fill 0xFF10 to 0xFF26 (R80). -/
theorem regOfAddr_eq_none {a : Addr} (h : regOfAddr a = none) : a.toNat < 0xFF10 ∨ 0xFF26 < a.toNat := by
  by_contra hrange
  obtain ⟨hlo, hhi⟩ : 0xFF10 ≤ a.toNat ∧ a.toNat ≤ 0xFF26 := by omega
  unfold regOfAddr at h
  interval_cases a.toNat <;> cases h

/-- The masks of the three rows of the unused range and the wave table, as numbers (R115). -/
theorem rowMatch_iff (a : Addr) :
    (a = 0xFF27 ↔ a.toNat = 0xFF27) ∧ (a.extractLsb' 3 13 = 0x1FE5 ↔ a.toNat / 8 = 0x1FE5) ∧
    (a.extractLsb' 4 12 = 0xFF3 ↔ a.toNat / 16 = 0xFF3) := by
  have hlt := a.isLt
  refine ⟨BitVec.toNat_inj.symm, ?_, ?_⟩ <;>
    rw [← BitVec.toNat_inj, BitVec.extractLsb'_toNat, Nat.shiftRight_eq_div_pow]
  · change a.toNat / 8 % 8192 = 0x1FE5 ↔ _
    omega
  · change a.toNat / 16 % 4096 = 0xFF3 ↔ _
    omega

/-- The four kinds of READ row: a register's, the unused range's, the wave table's, and the fallback (R112, R115). -/
theorem decodeRead_cases (a : Addr) :
    (∃ r, a = regAddr r ∧ decodeRead a = readOfReg r) ∨
    (regOfAddr a = none ∧ 0xFF27 ≤ a.toNat ∧ a.toNat ≤ 0xFF2F ∧
      (decodeRead a = .rdUnused27 ∨ ∃ k, decodeRead a = .rdUnused28 k)) ∨
    (regOfAddr a = none ∧ ∃ k : BitVec 4, a.toNat = 0xFF30 + k.toNat ∧ decodeRead a = .rdWave k) ∨
    (regOfAddr a = none ∧ (a.toNat < 0xFF10 ∨ 0xFF3F < a.toNat) ∧ decodeRead a = .rdNoData a) := by
  cases hreg : regOfAddr a with
  | some r => exact .inl ⟨r, eq_regAddr_of_regOfAddr hreg, by simp only [decodeRead, hreg]⟩
  | none =>
    have hrange := regOfAddr_eq_none hreg
    obtain ⟨h27, h28, h30⟩ := rowMatch_iff a
    by_cases hc27 : a.toNat = 0xFF27
    · have hrow : decodeRead a = .rdUnused27 := by
        simp only [decodeRead, hreg, h27, hc27, if_true]
      exact .inr (.inl ⟨rfl, by omega, by omega, .inl hrow⟩)
    by_cases hc28 : a.toNat / 8 = 0x1FE5
    · have hrow : decodeRead a = .rdUnused28 (a.extractLsb' 0 3) := by
        simp only [decodeRead, hreg, h27, h28, hc27, hc28, if_true, if_false]
      exact .inr (.inl ⟨rfl, by omega, by omega, .inr ⟨_, hrow⟩⟩)
    by_cases hc30 : a.toNat / 16 = 0xFF3
    · have hrow : decodeRead a = .rdWave (a.extractLsb' 0 4) := by
        simp only [decodeRead, hreg, h27, h28, h30, hc27, hc28, hc30, if_true, if_false]
      have hk : (a.extractLsb' 0 4).toNat = a.toNat % 16 := by
        rw [BitVec.extractLsb'_toNat, Nat.shiftRight_zero]
      exact .inr (.inr (.inl ⟨rfl, _, by omega, hrow⟩))
    · have hrow : decodeRead a = .rdNoData a := by
        simp only [decodeRead, hreg, h27, h28, h30, hc27, hc28, hc30, if_false]
      exact .inr (.inr (.inr ⟨rfl, by omega, hrow⟩))

theorem regGet_resetWith (c : Config) (r : Reg) : regGet (State.resetWith c).regs r = 0 := by cases r <;> rfl

theorem isEnabled_resetWith (c : Config) (ch : Channel) : isEnabled (State.resetWith c) ch = false := by
  cases ch <;> rfl

theorem nr52Value_resetWith (c : Config) : nr52Value (State.resetWith c) = 0x70 := by
  have hstatus : statusBits (State.resetWith c) = 0 := by simp [statusBits, isEnabled_resetWith]
  have hpower : (State.resetWith c).regs.nr52 = 0 := rfl
  rw [nr52Value, hstatus, hpower]
  decide

/-- A READ of a register other than NR52 answers the register under its mask (R143). -/
theorem exec_readOfReg {r : Reg} (h : r ≠ .nr52) (s : State) : exec (readOfReg r) s = stimulus (answerReg r) s := by
  cases r with
  | nr52 => exact absurd rfl h
  | _ => rfl

/-- At reset every register reads as its mask; for NR52 that is the value R541 gives it (R143, R150). -/
theorem execReadOfReg_resetWith (r : Reg) (c : Config) :
    exec (readOfReg r) (State.resetWith c) = .next { State.resetWith c with answers := [.byte (readMask r)] } := by
  by_cases h : r = .nr52
  · subst h
    change stimulus (fun s => giveAnswer (.byte (nr52Value s)) s) (State.resetWith c) = _
    rw [stimulus_none rfl, nr52Value_resetWith]
    rfl
  · have hmask : regGet (State.resetWith c).regs r ||| readMask r = readMask r := by
      rw [regGet_resetWith]
      exact BitVec.zero_or
    rw [exec_readOfReg h, stimulus_none rfl, answerReg, hmask]
    rfl

/-- The READ_MASK of NR52 is what NR52 reads at reset. -/
theorem nr52_answer_eq_mask (r : Reg) :
    (if regAddr r = 0xFF26 then Answer.byte 0x70 else .byte (readMask r)) = .byte (readMask r) := by
  cases r <;> rfl

/-- At reset channel 3 is not enabled and every wave byte is 0, so a wave READ answers 0 in either mode (R341, R66). -/
theorem execRdWave_resetWith (k : BitVec 4) (c : Config) :
    exec (.rdWave k) (State.resetWith c) = .next { State.resetWith c with answers := [.byte 0] } := by
  have hdirect : waveAccessDirect (State.resetWith c) = true :=
    waveAccessDirect_iff.mpr (.inr (isEnabled_resetWith c .ch3))
  change stimulus (readWave k.toNat) (State.resetWith c) = _
  rw [stimulus_none rfl, readWave_direct hdirect]
  rfl

/-- Settles O47: the fields are those of R66 by definition, and each kind of READ row answers as R541 says. -/
theorem resetStateAndReads : Obligations.ResetStateAndReads := by
  unfold Obligations.ResetStateAndReads
  intro c
  refine ⟨rfl, regGet_resetWith c, fun ch => ?_, rfl, rfl, rfl, rfl, rfl, rfl, rfl, rfl, fun _ => rfl, rfl, rfl, rfl,
    fun a => ?_⟩
  · cases ch <;> rfl
  · rcases decodeRead_cases a with ⟨r, rfl, h⟩ | ⟨hreg, hlo, hhi, h⟩ | ⟨hreg, k, ha, h⟩ | ⟨hreg, ha, h⟩
    · rw [h, execReadOfReg_resetWith, regOfAddr_regAddr, nr52_answer_eq_mask]
    · have hne : a ≠ 0xFF26 := by bv_omega
      simp only [hne, hreg, hlo, hhi, if_true, if_false, and_self]
      rcases h with h | ⟨k, h⟩ <;> rw [h] <;> rfl
    · have hk := k.isLt
      have hne : a ≠ 0xFF26 := by bv_omega
      have hunused : ¬ (0xFF27 ≤ a.toNat ∧ a.toNat ≤ 0xFF2F) := by omega
      have hwave : 0xFF30 ≤ a.toNat ∧ a.toNat ≤ 0xFF3F := by omega
      simp only [hne, hreg, hunused, hwave, if_true, if_false, and_self, h, execRdWave_resetWith]
    · have hne : a ≠ 0xFF26 := by bv_omega
      have hunused : ¬ (0xFF27 ≤ a.toNat ∧ a.toNat ≤ 0xFF2F) := by omega
      have hwave : ¬ (0xFF30 ≤ a.toNat ∧ a.toNat ≤ 0xFF3F) := by omega
      simp only [hne, hreg, hunused, hwave, if_false, h]
      rfl

/-! ### A WRITE to the wave table -/

/-- A wave WRITE leaves everything but the wave table. -/
theorem writeWave_frame (k : Nat) (d : Byte) (s : State) :
    writeWave k d s = { s with ch3 := { s.ch3 with wave := (writeWave k d s).ch3.wave } } := by
  rcases writeWave_cases k d s with ⟨j, _, h⟩ | ⟨_, h⟩ <;> rw [h]
  rfl

/-- Settles O29: the WRITE is `storeWave` of the byte `waveWriteIndex` gives, or nothing. -/
theorem waveWriteFrame : Obligations.WaveWriteFrame := by
  unfold Obligations.WaveWriteFrame
  intro s t k d hf he
  obtain rfl : t = writeWave k.toNat d s := (stimulus_next.mp he).trans (unlessFaulted_none hf)
  refine ⟨writeWave_frame k.toNat d s, fun hnone a => ?_, fun j hj => ?_⟩
  · simp only [writeWave, hnone]
  · have hwave : (writeWave k.toNat d s).ch3.wave = memWrite s.ch3.wave (waveAddr j) d := by
      simp only [writeWave, hj, storeWave]
    rw [hwave]
    refine ⟨fun a ha => memRead_memWrite_other ha, fun hwf hp => ⟨memRead_memWrite_same hwf, ?_⟩⟩
    have hle : j ≤ 15 := waveWriteIndex_le (Nat.le_of_lt_succ k.isLt) hp hj
    exact storeWave_wf hwf hle

/-- In direct mode every access goes to the addressed byte (R341, R342). -/
theorem waveAccessDirect_of_direct {s : State} (h : s.config.waveRamAccess = .direct) : waveAccessDirect s = true :=
  waveAccessDirect_iff.mpr (.inl h)

theorem writeWave_direct {k : Nat} {d : Byte} {s : State} (h : waveAccessDirect s = true) :
    writeWave k d s = { s with ch3 := storeWave k d s.ch3 } := by
  simp only [writeWave, waveWriteIndex, h, if_true]

/-- What the CYCLEs between a WRITE and a READ of wave byte `k` keep: the invariant, the mode, the byte, the answers. -/
structure WaveByteHeld (k : Nat) (d : Byte) (answers : List Answer) (s : State) : Prop where
  inv : Inv s
  direct : s.config.waveRamAccess = .direct
  byte : waveByte k s.ch3 = d
  answers : s.answers = answers

/-- CYCLE keeps it, since it writes no wave byte and gives no answer (O36). -/
theorem WaveByteHeld.cycle {k : Nat} {d : Byte} {as : List Answer} {s : State} (h : WaveByteHeld k d as s) :
    ∃ t, exec .cycle s = .next t ∧ WaveByteHeld k d as t := by
  obtain ⟨t, he, _, _, _, hwave, hconfig, _, hanswers⟩ := cycleFrame s h.inv.correct h.inv.ctl.seqStep
  exact ⟨t, he, exec_inv h.inv he, hconfig ▸ h.direct, (congrArg (memRead · (waveAddr k)) hwave).trans h.byte,
    hanswers.trans h.answers⟩

/-- Settles O30: the WRITE establishes `WaveByteHeld`, each CYCLE keeps it, and from it the READ answers the byte. -/
theorem waveRoundTrip : Obligations.WaveRoundTrip := by
  unfold Obligations.WaveRoundTrip
  intro s t k d n hinv hdirect hrun
  have hwrite : exec (.wrWave k d) s = .next { s with ch3 := storeWave k.toNat d s.ch3 } :=
    (stimulus_none hinv.correct).trans (congrArg _ (writeWave_direct (waveAccessDirect_of_direct hdirect)))
  have hbyte : waveByte k.toNat (storeWave k.toNat d s.ch3) = d := by
    rw [waveByte_storeWave hinv.wave, if_pos rfl]
  obtain ⟨v, hcycles, hheld⟩ := runAll_cycles (P := fun _ => WaveByteHeld k.toNat d s.answers)
    (fun _ _ h => h.cycle) n 0 ⟨exec_inv hinv hwrite, hdirect, hbyte, rfl⟩
  have hread : exec (.rdWave k) v = .next (giveAnswer (.byte d) v) := by
    have hv := readWave_direct (k := k.toNat) (waveAccessDirect_of_direct hheld.direct)
    rw [hheld.byte] at hv
    exact (stimulus_none hheld.inv.correct).trans (congrArg _ hv)
  rw [List.cons_append, runAll_cons hwrite, runAll_append hcycles, runAll_cons hread, runAll_nil] at hrun
  cases hrun
  rw [giveAnswer_answers, hheld.answers]

end Sys2Proof.Machine
end

section
/-! Lemmas and proofs for the statements of 20_memory.md: the opcode map by match and mask (O5), and the step without a
stimulus or with a configuration outside R8's conditions (O8). -/

namespace Sys2Proof.Machine
open Sys2Proof

/-! ### The decoder by op -/

/-- A READ with data byte 0 is the READ row of its address (R112, R113). -/
theorem decode_read {w : StimulusWord} (hop : opField w = 0) (hdata : dataField w = 0) :
    decode w = .ok (decodeRead (addrField w)) := by
  simp [decode, hop, hdata]

/-- A WRITE is the WRITE row of its address, with its data byte (R112). -/
theorem decode_write {w : StimulusWord} (hop : opField w = 1) :
    decode w = .ok (decodeWrite (addrField w) (dataField w)) := by
  simp [decode, hop]

/-! ### The address ranges without a register -/

/-- An address outside 0xFF10 to 0xFF26 names no register (R80). -/
theorem regOfAddr_of_outside {a : Addr} (h : a.toNat < 0xFF10 ∨ 0xFF26 < a.toNat) : regOfAddr a = none := by
  cases hreg : regOfAddr a with
  | none => rfl
  | some r =>
    obtain rfl := eq_regAddr_of_regOfAddr hreg
    cases r <;> exact absurd h (by decide)

/-- The rows of the unused range's masked part, 0xFF28 to 0xFF2F (R115). -/
theorem decode_unused28 {a : Addr} (h : a.extractLsb' 3 13 = 0x1FE5) :
    decodeRead a = .rdUnused28 (a.extractLsb' 0 3) ∧
      ∀ d, decodeWrite a d = .wrUnused28 (a.extractLsb' 0 3) d := by
  obtain ⟨h27, h28, _⟩ := rowMatch_iff a
  have hrange := h28.mp h
  have hreg : regOfAddr a = none := regOfAddr_of_outside (by omega)
  have hne27 : a ≠ 0xFF27 := mt h27.mp (by omega)
  simp only [decodeRead, decodeWrite, hreg, hne27, h, if_false, if_true, implies_true, and_self]

/-- The rows of the wave table, 0xFF30 to 0xFF3F (R115). -/
theorem decode_wave {a : Addr} (h : a.extractLsb' 4 12 = 0xFF3) :
    decodeRead a = .rdWave (a.extractLsb' 0 4) ∧ ∀ d, decodeWrite a d = .wrWave (a.extractLsb' 0 4) d := by
  obtain ⟨h27, h28, h30⟩ := rowMatch_iff a
  have hrange := h30.mp h
  have hreg : regOfAddr a = none := regOfAddr_of_outside (by omega)
  have hne27 : a ≠ 0xFF27 := mt h27.mp (by omega)
  have hne28 : a.extractLsb' 3 13 ≠ 0x1FE5 := mt h28.mp (by omega)
  simp only [decodeRead, decodeWrite, hreg, hne27, hne28, h, if_false, if_true, implies_true, and_self]

/-- The fallback rows take the addresses the APU does not claim (R115). -/
theorem decode_noData {a : Addr} (h : a.toNat < 0xFF10 ∨ 0xFF3F < a.toNat) :
    decodeRead a = .rdNoData a ∧ ∀ d, decodeWrite a d = .wrNoData a d := by
  obtain ⟨h27, h28, h30⟩ := rowMatch_iff a
  have hreg : regOfAddr a = none := regOfAddr_of_outside (by omega)
  have hne27 : a ≠ 0xFF27 := mt h27.mp (by omega)
  have hne28 : a.extractLsb' 3 13 ≠ 0x1FE5 := mt h28.mp (by omega)
  have hne30 : a.extractLsb' 4 12 ≠ 0xFF3 := mt h30.mp (by omega)
  simp only [decodeRead, decodeWrite, hreg, hne27, hne28, hne30, if_false, implies_true, and_self]

/-! ### Matching under a mask -/

theorem packWord_and (op op' : BitVec 2) (a a' : Addr) (d d' : Byte) :
    packWord op a d &&& packWord op' a' d' = packWord (op &&& op') (a &&& a') (d &&& d') := by
  change (op ++ a ++ d &&& op' ++ a' ++ d' : BitVec (2 + 16 + 8)) = _
  rw [BitVec.and_append, BitVec.and_append]
  rfl

/-- A match under a mask is a match of each field under the mask's field. -/
theorem fields_of_mask {w : StimulusWord} {op mop : BitVec 2} {a ma : Addr} {d md : Byte}
    (h : w &&& packWord mop ma md = packWord op a d) :
    opField w &&& mop = op ∧ addrField w &&& ma = a ∧ dataField w &&& md = d := by
  rw [← packWord_fields w, packWord_and] at h
  exact ⟨by simpa using congrArg opField h, by simpa using congrArg addrField h, by simpa using congrArg dataField h⟩

/-- The bits that its mask covers are those of the match. -/
theorem extractLsb'_of_mask {n start len : Nat} {a m v : BitVec n} (h : a &&& m = v)
    (hm : m.extractLsb' start len = BitVec.allOnes len) : a.extractLsb' start len = v.extractLsb' start len := by
  rw [← h, BitVec.extractLsb'_and, hm, BitVec.and_allOnes]

/-- The low bits of the address field, as bits of the word (R110). -/
theorem addrField_low (w : StimulusWord) {len : Nat} (h : len ≤ 16) :
    (addrField w).extractLsb' 0 len = w.extractLsb' 8 len := by
  apply BitVec.eq_of_getLsbD_eq
  intro i hi
  have hlt : i < 16 := Nat.lt_of_lt_of_le hi h
  simp [addrField, hi, hlt]

/-- A READ row's mask covers op and data, so the row is that of an address matched under the address's mask (R115). -/
theorem decode_of_readMask {w : StimulusWord} {a ma : Addr} (h : w &&& packWord 3 ma 0xFF = packWord 0 a 0) :
    addrField w &&& ma = a ∧ decode w = .ok (decodeRead (addrField w)) := by
  obtain ⟨hop, haddr, hdata⟩ := fields_of_mask h
  exact ⟨haddr, decode_read (BitVec.and_allOnes.symm.trans hop) (BitVec.and_allOnes.symm.trans hdata)⟩

/-- A WRITE row's mask covers op and leaves the data free (R115). -/
theorem decode_of_writeMask {w : StimulusWord} {a ma : Addr} (h : w &&& packWord 3 ma 0 = packWord 1 a 0) :
    addrField w &&& ma = a ∧ decode w = .ok (decodeWrite (addrField w) (dataField w)) := by
  obtain ⟨hop, haddr, _⟩ := fields_of_mask h
  exact ⟨haddr, decode_write (BitVec.and_allOnes.symm.trans hop)⟩

/-- The READ rows of a single address. -/
theorem decode_readAt {w : StimulusWord} (a : Addr) (h : w &&& 0x3FFFFFF = packWord 0 a 0) :
    decode w = .ok (decodeRead a) := by
  obtain ⟨haddr, hrow⟩ := decode_of_readMask (ma := BitVec.allOnes 16) h
  rwa [BitVec.and_allOnes.symm.trans haddr] at hrow

/-- The WRITE rows of a single address. -/
theorem decode_writeAt {w : StimulusWord} (a : Addr) (h : w &&& 0x3FFFF00 = packWord 1 a 0) :
    decode w = .ok (decodeWrite a (dataField w)) := by
  obtain ⟨haddr, hrow⟩ := decode_of_writeMask (ma := BitVec.allOnes 16) h
  rwa [BitVec.and_allOnes.symm.trans haddr] at hrow

/-- The READ row of each register, at the register's address (R80). -/
theorem decode_readReg {w : StimulusWord} (r : Reg) (h : w &&& 0x3FFFFFF = packWord 0 (regAddr r) 0) :
    decode w = .ok (readOfReg r) := by
  rw [decode_readAt _ h, decodeRead_regAddr]

/-- The WRITE row of each register, at the register's address (R80). -/
theorem decode_writeReg {w : StimulusWord} (r : Reg) (h : w &&& 0x3FFFF00 = packWord 1 (regAddr r) 0) :
    decode w = .ok (writeOfReg (dataField w) r) := by
  rw [decode_writeAt _ h, decodeWrite_regAddr]

/-- Settles O5: a mask splits into the masks of the three fields, and the matched address picks the row. -/
theorem decodeFollowsTheOpcodeMasks : Obligations.DecodeFollowsTheOpcodeMasks := by
  unfold Obligations.DecodeFollowsTheOpcodeMasks
  intro w
  refine ⟨
    decode_readReg .nr10, decode_writeReg .nr10, decode_readReg .nr11, decode_writeReg .nr11,
    decode_readReg .nr12, decode_writeReg .nr12, decode_readReg .nr13, decode_writeReg .nr13,
    decode_readReg .nr14, decode_writeReg .nr14, decode_readReg .nr20, decode_writeReg .nr20,
    decode_readReg .nr21, decode_writeReg .nr21, decode_readReg .nr22, decode_writeReg .nr22,
    decode_readReg .nr23, decode_writeReg .nr23, decode_readReg .nr24, decode_writeReg .nr24,
    decode_readReg .nr30, decode_writeReg .nr30, decode_readReg .nr31, decode_writeReg .nr31,
    decode_readReg .nr32, decode_writeReg .nr32, decode_readReg .nr33, decode_writeReg .nr33,
    decode_readReg .nr34, decode_writeReg .nr34, decode_readReg .nr40, decode_writeReg .nr40,
    decode_readReg .nr41, decode_writeReg .nr41, decode_readReg .nr42, decode_writeReg .nr42,
    decode_readReg .nr43, decode_writeReg .nr43, decode_readReg .nr44, decode_writeReg .nr44,
    decode_readReg .nr50, decode_writeReg .nr50, decode_readReg .nr51, decode_writeReg .nr51,
    decode_readReg .nr52, decode_writeReg .nr52,
    decode_readAt 0xFF27, decode_writeAt 0xFF27, fun hcycle => ?_,
    fun hread => ?_, fun hwrite => ?_, fun hread => ?_, fun hwrite => ?_,
    fun hout => ⟨fun hread => ?_, fun hwrite => ?_⟩⟩
  · obtain rfl : w = 0x2000000 := BitVec.and_allOnes.symm.trans hcycle
    rfl
  · obtain ⟨haddr, hrow⟩ := decode_of_readMask (ma := 0xFFF8) (a := 0xFF28) hread
    rw [hrow, (decode_unused28 (extractLsb'_of_mask haddr rfl)).1, addrField_low w (by decide)]
  · obtain ⟨haddr, hrow⟩ := decode_of_writeMask (ma := 0xFFF8) (a := 0xFF28) hwrite
    rw [hrow, (decode_unused28 (extractLsb'_of_mask haddr rfl)).2, addrField_low w (by decide), dataField]
  · obtain ⟨haddr, hrow⟩ := decode_of_readMask (ma := 0xFFF0) (a := 0xFF30) hread
    rw [hrow, (decode_wave (extractLsb'_of_mask haddr rfl)).1, addrField_low w (by decide)]
  · obtain ⟨haddr, hrow⟩ := decode_of_writeMask (ma := 0xFFF0) (a := 0xFF30) hwrite
    rw [hrow, (decode_wave (extractLsb'_of_mask haddr rfl)).2, addrField_low w (by decide), dataField]
  · obtain ⟨_, hrow⟩ := decode_of_readMask (ma := 0) (a := 0) hread
    exact hrow.trans (congrArg Except.ok (decode_noData hout).1)
  · obtain ⟨_, hrow⟩ := decode_of_writeMask (ma := 0) (a := 0) hwrite
    exact hrow.trans (congrArg Except.ok ((decode_noData hout).2 _))

/-! ### The step without a stimulus, and with a bad configuration -/

/-- The conditions of R8, and log 4's on SEQ_RELOAD, as bounds on the parameters. -/
theorem configValid_iff_bounds {c : Config} :
    configValid c = true ↔ 512 ≤ c.masterClockHz ∧ (0 < c.sampleRateHz ∧ c.sampleRateHz ≤ c.masterClockHz) ∧
      c.bufferCapacity % 2 = 0 ∧ 2 ≤ c.bufferCapacity := by
  have hseq : 1 ≤ seqReload c ↔ 512 ≤ c.masterClockHz := Nat.div_pos_iff.trans (and_iff_right (by decide))
  have hsample : 1 ≤ sampleReload c ↔ 0 < c.sampleRateHz ∧ c.sampleRateHz ≤ c.masterClockHz := Nat.div_pos_iff
  rw [configValid_iff, hseq, hsample]

/-- With no stimulus pending the machine waits (log 1). -/
theorem step_of_pending_nil {s : State} (hc : configValid s.config = true) (hp : s.pending = []) : step s = .next s := by
  simp only [step, hc, if_true, takeStimulus_nil hp]

theorem step_of_not_configValid {s : State} (h : ¬ configValid s.config = true) : step s = .refused .badConfiguration :=
  if_neg h

/-- Settles O8: a step asks for a valid configuration first, and each of the five disjuncts breaks one bound. -/
theorem stepWithoutStimulusWaits : Obligations.StepWithoutStimulusWaits := by
  unfold Obligations.StepWithoutStimulusWaits
  refine ⟨fun s => step_of_pending_nil, fun s hbad => step_of_not_configValid fun hvalid => ?_⟩
  have hbounds := configValid_iff_bounds.mp hvalid
  omega

end Sys2Proof.Machine
end

section
/-! Lemmas and proofs for the statements of 30_encoding.md: decoder and encoder are inverse (O2, O3), the reserved words
(O4), the assembler's words (O6), routing by component (O12), and a few words of the map (O1). -/

namespace Sys2Proof.Machine
open Sys2Proof

/-! ### The kinds of address

Every address is that of a register, 0xFF27, one of the two masked ranges, or not claimed. With the row of each kind,
a statement about every READ and WRITE is one about five kinds of row. -/

theorem claimed_eq_false_iff {a : Addr} : claimed a = false ↔ a.toNat < 0xFF10 ∨ 0xFF3F < a.toNat := by
  simp only [claimed, Bool.and_eq_false_iff, decide_eq_false_iff_not, Nat.not_le]

theorem unusedRow_toNat (k : BitVec 3) : (0x1FE5#13 ++ k : Addr).toNat = 0xFF28 + k.toNat := by
  rw [BitVec.toNat_append, ← Nat.shiftLeft_add_eq_or_of_lt k.isLt]
  rfl

theorem waveRow_toNat (k : BitVec 4) : (0xFF3#12 ++ k : Addr).toNat = 0xFF30 + k.toNat := by
  rw [BitVec.toNat_append, ← Nat.shiftLeft_add_eq_or_of_lt k.isLt]
  rfl

/-- The kinds of address the opcode map tells apart (R80, R115). -/
theorem addr_cases (a : Addr) :
    (∃ r, a = regAddr r) ∨ a = 0xFF27 ∨ (∃ k : BitVec 3, a = 0x1FE5#13 ++ k) ∨ (∃ k : BitVec 4, a = 0xFF3#12 ++ k) ∨
      claimed a = false := by
  cases hreg : regOfAddr a with
  | some r => exact .inl ⟨r, eq_regAddr_of_regOfAddr hreg⟩
  | none =>
    have hrange := regOfAddr_eq_none hreg
    obtain ⟨h27, h28, h30⟩ := rowMatch_iff a
    by_cases hc27 : a = 0xFF27
    · exact .inr (.inl hc27)
    by_cases hc28 : a.extractLsb' 3 13 = 0x1FE5
    · have ha := BitVec.extractLsb'_append_extractLsb' (w := 13) (len := 3) (x := a)
      exact .inr (.inr (.inl ⟨_, hc28 ▸ ha.symm⟩))
    by_cases hc30 : a.extractLsb' 4 12 = 0xFF3
    · have ha := BitVec.extractLsb'_append_extractLsb' (w := 12) (len := 4) (x := a)
      exact .inr (.inr (.inr (.inl ⟨_, hc30 ▸ ha.symm⟩)))
    · rw [h27] at hc27
      rw [h28] at hc28
      rw [h30] at hc30
      exact .inr (.inr (.inr (.inr (claimed_eq_false_iff.mpr (by omega)))))

/-- An appended word is taken apart into its two parts. -/
theorem extractLsb'_append_parts {m n : Nat} (x : BitVec m) (y : BitVec n) :
    (x ++ y).extractLsb' n m = x ∧ (x ++ y).extractLsb' 0 n = y := by
  constructor <;> ext i hi <;> simp [BitVec.getLsbD_append, hi]

/-- The rows of 0xFF28 + k (R115). -/
theorem decode_unusedRow (k : BitVec 3) :
    decodeRead (0x1FE5#13 ++ k) = .rdUnused28 k ∧ ∀ d, decodeWrite (0x1FE5#13 ++ k) d = .wrUnused28 k d := by
  obtain ⟨hhigh, hlow⟩ := extractLsb'_append_parts 0x1FE5#13 k
  have hrow := decode_unused28 hhigh
  rwa [hlow] at hrow

/-- The rows of wave byte `k` (R115). -/
theorem decode_waveRow (k : BitVec 4) :
    decodeRead (0xFF3#12 ++ k) = .rdWave k ∧ ∀ d, decodeWrite (0xFF3#12 ++ k) d = .wrWave k d := by
  obtain ⟨hhigh, hlow⟩ := extractLsb'_append_parts 0xFF3#12 k
  have hrow := decode_wave hhigh
  rwa [hlow] at hrow

/-- The fallback rows (R115). -/
theorem decode_unclaimed {a : Addr} (h : claimed a = false) :
    decodeRead a = .rdNoData a ∧ ∀ d, decodeWrite a d = .wrNoData a d :=
  decode_noData (claimed_eq_false_iff.mp h)

/-! ### The words of READ, WRITE and CYCLE -/

theorem decode_packWord_read (a : Addr) : decode (packWord 0 a 0) = .ok (decodeRead a) := by
  rw [decode_read (opField_packWord 0 a 0) (dataField_packWord 0 a 0), addrField_packWord]

theorem decode_packWord_write (a : Addr) (d : Byte) : decode (packWord 1 a d) = .ok (decodeWrite a d) := by
  rw [decode_write (opField_packWord 1 a d), addrField_packWord, dataField_packWord]

theorem decode_packWord_cycle : decode (packWord 2 0 0) = .ok .cycle := rfl

/-- Settles O2: the word of a row has the row's address, and that address picks the row. -/
theorem decodeEncodeRoundTrip : Obligations.DecodeEncodeRoundTrip := by
  unfold Obligations.DecodeEncodeRoundTrip
  intro i hwf
  cases i with
  | rdNr10 | rdNr11 | rdNr12 | rdNr13 | rdNr14 | rdNr20 | rdNr21 | rdNr22 | rdNr23 | rdNr24 | rdNr30 | rdNr31 | rdNr32
  | rdNr33 | rdNr34 | rdNr40 | rdNr41 | rdNr42 | rdNr43 | rdNr44 | rdNr50 | rdNr51 | rdNr52 | rdUnused27 =>
    exact decode_packWord_read _
  | wrNr10 d | wrNr11 d | wrNr12 d | wrNr13 d | wrNr14 d | wrNr20 d | wrNr21 d | wrNr22 d | wrNr23 d | wrNr24 d
  | wrNr30 d | wrNr31 d | wrNr32 d | wrNr33 d | wrNr34 d | wrNr40 d | wrNr41 d | wrNr42 d | wrNr43 d | wrNr44 d
  | wrNr50 d | wrNr51 d | wrNr52 d | wrUnused27 d =>
    exact decode_packWord_write _ d
  | rdUnused28 k => rw [encode, decode_packWord_read, (decode_unusedRow k).1]
  | wrUnused28 k d => rw [encode, decode_packWord_write, (decode_unusedRow k).2]
  | rdWave k => rw [encode, decode_packWord_read, (decode_waveRow k).1]
  | wrWave k d => rw [encode, decode_packWord_write, (decode_waveRow k).2]
  | rdNoData a => rw [encode, decode_packWord_read, (decode_unclaimed ((Bool.not_eq_true' _).mp hwf)).1]
  | wrNoData a d => rw [encode, decode_packWord_write, (decode_unclaimed ((Bool.not_eq_true' _).mp hwf)).2]
  | cycle => exact decode_packWord_cycle

/-! ### What a word decodes to -/

/-- The three kinds of reserved word (R113). -/
def Reserved (w : StimulusWord) : Prop :=
  opField w = 3 ∨ (opField w = 0 ∧ dataField w ≠ 0) ∨ (opField w = 2 ∧ (addrField w ≠ 0 ∨ dataField w ≠ 0))

theorem op_cases : ∀ op : BitVec 2, op = 0 ∨ op = 1 ∨ op = 2 ∨ op = 3 := by decide

theorem eq_packWord {w : StimulusWord} {op : BitVec 2} {a : Addr} {d : Byte} (hop : opField w = op)
    (ha : addrField w = a) (hd : dataField w = d) : w = packWord op a d := by
  rw [← hop, ← ha, ← hd, packWord_fields]

theorem decode_readWithData {w : StimulusWord} (hop : opField w = 0) (hd : dataField w ≠ 0) :
    decode w = .error .readWithData := by
  rw [decode, hop]
  exact if_neg hd

theorem decode_cycleWithOperand {w : StimulusWord} (hop : opField w = 2)
    (had : ¬ (addrField w = 0 ∧ dataField w = 0)) : decode w = .error .cycleWithOperand := by
  rw [decode, hop]
  exact if_neg had

theorem decode_reservedOp {w : StimulusWord} (hop : opField w = 3) : decode w = .error .reservedOp := by
  simp [decode, hop]

/-- A word is a READ, a WRITE, the CYCLE, or reserved (R112, R113). -/
theorem decode_cases (w : StimulusWord) :
    (∃ a, w = packWord 0 a 0 ∧ decode w = .ok (decodeRead a)) ∨
    (∃ a d, w = packWord 1 a d ∧ decode w = .ok (decodeWrite a d)) ∨
    (w = packWord 2 0 0 ∧ decode w = .ok .cycle) ∨
    (Reserved w ∧ ∃ e, decode w = .error e) := by
  rcases op_cases (opField w) with hop | hop | hop | hop
  · by_cases hd : dataField w = 0
    · exact .inl ⟨_, eq_packWord hop rfl hd, decode_read hop hd⟩
    · exact .inr (.inr (.inr ⟨.inr (.inl ⟨hop, hd⟩), _, decode_readWithData hop hd⟩))
  · exact .inr (.inl ⟨_, _, eq_packWord hop rfl rfl, decode_write hop⟩)
  · by_cases had : addrField w = 0 ∧ dataField w = 0
    · obtain rfl := eq_packWord hop had.1 had.2
      exact .inr (.inr (.inl ⟨rfl, decode_packWord_cycle⟩))
    · have hreserved : Reserved w := .inr (.inr ⟨hop, not_and_or.mp had⟩)
      exact .inr (.inr (.inr ⟨hreserved, _, decode_cycleWithOperand hop had⟩))
  · exact .inr (.inr (.inr ⟨.inl hop, _, decode_reservedOp hop⟩))

/-- The rows of an address have the READ and WRITE words of that address, and are well formed (R115, R118). -/
theorem rows_encode (a : Addr) (d : Byte) :
    ((decodeRead a).wellFormed = true ∧ encode (decodeRead a) = packWord 0 a 0) ∧
      (decodeWrite a d).wellFormed = true ∧ encode (decodeWrite a d) = packWord 1 a d := by
  rcases addr_cases a with ⟨r, rfl⟩ | rfl | ⟨k, rfl⟩ | ⟨k, rfl⟩ | h
  · rw [decodeRead_regAddr, decodeWrite_regAddr]
    cases r <;> exact ⟨⟨rfl, rfl⟩, rfl, rfl⟩
  · exact ⟨⟨rfl, rfl⟩, rfl, rfl⟩
  · rw [(decode_unusedRow k).1, (decode_unusedRow k).2]
    exact ⟨⟨rfl, rfl⟩, rfl, rfl⟩
  · rw [(decode_waveRow k).1, (decode_waveRow k).2]
    exact ⟨⟨rfl, rfl⟩, rfl, rfl⟩
  · have hwf : (!claimed a) = true := congrArg (!·) h
    rw [(decode_unclaimed h).1, (decode_unclaimed h).2]
    exact ⟨⟨hwf, rfl⟩, hwf, rfl⟩

/-- Settles O3: a word that decodes is that of a READ, a WRITE or the CYCLE, which its row encodes. -/
theorem encodeDecodeRoundTrip : Obligations.EncodeDecodeRoundTrip := by
  unfold Obligations.EncodeDecodeRoundTrip
  intro w i h
  rcases decode_cases w with ⟨a, rfl, hd⟩ | ⟨a, d, rfl, hd⟩ | ⟨rfl, hd⟩ | ⟨_, e, hd⟩ <;> cases hd.symm.trans h
  · exact (rows_encode a 0).1
  · exact (rows_encode a d).2
  · exact ⟨rfl, rfl⟩

/-! ### The reserved words -/

theorem decode_error_iff {w : StimulusWord} : (∃ e, decode w = .error e) ↔ Reserved w := by
  rcases decode_cases w with ⟨a, rfl, hd⟩ | ⟨a, d, rfl, hd⟩ | ⟨rfl, hd⟩ | ⟨hreserved, herror⟩
  · rw [hd]
    simp [Reserved]
  · rw [hd]
    simp [Reserved]
  · rw [hd]
    simp [Reserved]
  · exact iff_of_true herror hreserved

/-- A step refuses a reserved word by name, in whatever state the machine is (R113; log 7). -/
theorem step_of_decode_error {s : State} {w : StimulusWord} {rest : List StimulusWord} {e : Reject}
    (hc : configValid s.config = true) (hp : s.pending = w :: rest) (hd : decode w = .error e) :
    step s = .refused (.reservedWord w e) := by
  simp only [step, hc, if_true, takeStimulus_cons hp, hd]

/-- Settles O4: `Reserved` is R113's list by the fields' names. -/
theorem reservedWordsAreRefused : Obligations.ReservedWordsAreRefused := by
  unfold Obligations.ReservedWordsAreRefused
  exact ⟨fun _ => decode_error_iff, fun _ _ _ _ => step_of_decode_error⟩

/-! ### The assembler's words -/

/-- `rd A` is the READ word of A (R116). -/
theorem wordRd_eq_packWord (a : Addr) : wordRd a = packWord 0 a 0 := by
  have ha := a.isLt
  apply BitVec.eq_of_toNat_eq
  rw [packWord_toNat, wordRd, BitVec.toNat_shiftLeft, BitVec.toNat_setWidth, Nat.shiftLeft_eq]
  change _ = 0 * 2 ^ 24 + a.toNat * 2 ^ 8 + 0
  omega

/-- `wr A, D` is the WRITE word of A with D (R116). -/
theorem wordWr_eq_packWord (a : Addr) (d : Byte) : wordWr a d = packWord 1 a d := by
  have ha := a.isLt
  have hd := d.isLt
  have hhigh : (a.zeroExtend 26 <<< 8 : StimulusWord).toNat = a.toNat <<< 8 := by
    rw [BitVec.toNat_shiftLeft, BitVec.toNat_setWidth, Nat.shiftLeft_eq, Nat.shiftLeft_eq]
    omega
  have hlow : (d.zeroExtend 26 : StimulusWord).toNat = d.toNat := by
    rw [BitVec.toNat_setWidth]
    omega
  apply BitVec.eq_of_toNat_eq
  rw [wordWr, BitVec.toNat_or, BitVec.toNat_or, hhigh, hlow]
  change _ = (1 <<< 16 ||| a.toNat) <<< 8 ||| d.toNat
  rw [Nat.shiftLeft_or_distrib]
  rfl

@[simp] theorem length_waveWords (a : Addr) (bytes : List Byte) : (waveWords a bytes).length = bytes.length := by
  induction bytes generalizing a with
  | nil => rfl
  | cons b bs ih => simp only [waveWords, List.length_cons, ih]

/-- Byte `k` of a `wave` line is written `k` addresses on (R117). -/
theorem getElem?_waveWords (a : Addr) (bytes : List Byte) (k : Nat) :
    (waveWords a bytes)[k]? = bytes[k]?.map (wordWr (a + BitVec.ofNat 16 k)) := by
  induction bytes generalizing a k with
  | nil => rfl
  | cons b bs ih =>
    cases k with
    | zero => simp [waveWords]
    | succ k =>
      have haddr : a + BitVec.ofNat 16 (k + 1) = a + 1 + BitVec.ofNat 16 k := by bv_omega
      rw [waveWords, List.getElem?_cons_succ, List.getElem?_cons_succ, ih, haddr]

/-- The 16 addresses from 0xFF30 on are those of the wave table (R64). -/
theorem waveRow_eq_add {k : Nat} (h : k < 16) : 0xFF30 + BitVec.ofNat 16 k = 0xFF3#12 ++ BitVec.ofNat 4 k := by
  apply BitVec.eq_of_toNat_eq
  rw [waveRow_toNat, BitVec.toNat_add, BitVec.toNat_ofNat, BitVec.toNat_ofNat]
  change (0xFF30 + _) % _ = _
  omega

/-- Settles O6: the words are `packWord`s, and a `wave` line's words stand at the wave table's addresses. -/
theorem assemblerWordsDecode : Obligations.AssemblerWordsDecode := by
  unfold Obligations.AssemblerWordsDecode
  refine ⟨fun a d => ⟨?_, ?_⟩, decode_packWord_cycle, fun n hn => if_pos hn, fun bytes hlen =>
    ⟨waveWords 0xFF30 bytes, if_pos hlen, (length_waveWords _ _).trans hlen, fun k b hb => ?_⟩⟩
  · rw [wordRd_eq_packWord, decode_packWord_read]
  · rw [wordWr_eq_packWord, decode_packWord_write]
  · obtain ⟨hk, _⟩ := List.getElem?_eq_some_iff.mp hb
    have haddr := waveRow_eq_add (hlen ▸ hk)
    refine ⟨wordWr (0xFF3#12 ++ BitVec.ofNat 4 k) b, ?_, ?_⟩
    · rw [getElem?_waveWords, hb, haddr]
      rfl
    · rw [wordWr_eq_packWord, decode_packWord_write, (decode_waveRow _).2]

/-! ### Routing by component -/

theorem mem_routeOrder (c : Component) : c ∈ routeOrder := by
  cases c with
  | channel c => cases c <;> decide
  | controller => decide

/-- The one component whose ranges hold a claimed address (R141). -/
def ownerOf (a : Addr) : Component :=
  if a.toNat ≤ 0xFF14 then .channel .ch1
  else if a.toNat ≤ 0xFF19 then .channel .ch2
  else if a.toNat ≤ 0xFF1E then .channel .ch3
  else if a.toNat ≤ 0xFF23 then .channel .ch4
  else if a.toNat ≤ 0xFF2F then .controller
  else .channel .ch3

/-- The ranges of R141 cut 0xFF10 to 0xFF3F into one part per component. -/
theorem claims_iff {a : Addr} {c : Component} :
    claims a c = true ↔ (0xFF10 ≤ a.toNat ∧ a.toNat ≤ 0xFF3F) ∧ ownerOf a = c := by
  cases c with
  | channel c => cases c <;> grind [claims, ownerOf]
  | controller => grind [claims, ownerOf]

/-- Some component claims an address exactly if it is one of the APU's (R80, R141). -/
theorem exists_claims_iff {a : Addr} : (∃ c, claims a c = true) ↔ 0xFF10 ≤ a.toNat ∧ a.toNat ≤ 0xFF3F :=
  ⟨fun ⟨_, h⟩ => (claims_iff.mp h).1, fun h => ⟨ownerOf a, claims_iff.mpr ⟨h, rfl⟩⟩⟩

theorem claims_unique {a : Addr} {c c' : Component} (h : claims a c = true) (h' : claims a c' = true) : c = c' :=
  (claims_iff.mp h).2.symm.trans (claims_iff.mp h').2

theorem claims_eq_false {a : Addr} (h : claimed a = false) (c : Component) : claims a c = false := by
  by_contra hc
  have hrange := exists_claims_iff.mp ⟨c, Bool.not_eq_false _ ▸ hc⟩
  have hout := claimed_eq_false_iff.mp h
  omega

/-- An access to a claimed address ends at a component that claims it (R141, R142). -/
theorem route_of_claims {a : Addr} {cs : List Component} (h : ∃ c ∈ cs, claims a c = true) (d : Byte) (s : State) :
    routeRead a s cs = readClaimed a s ∧ routeWrite a d s cs = writeClaimed a d s := by
  induction cs with
  | nil => simp at h
  | cons c cs ih =>
    by_cases hc : claims a c = true
    · exact ⟨if_pos hc, if_pos hc⟩
    · simp only [routeRead, routeWrite, if_neg hc]
      exact ih (by simpa [hc] using h)

/-- An access no component claims reaches the end of the route (R154, R155). -/
theorem route_of_unclaimed {a : Addr} (h : claimed a = false) (d : Byte) (s : State) (cs : List Component) :
    routeRead a s cs = giveAnswer .noData s ∧ routeWrite a d s cs = s := by
  induction cs with
  | nil => exact ⟨rfl, rfl⟩
  | cons c cs ih =>
    simp only [routeRead, routeWrite, claims_eq_false h c, Bool.false_eq_true, if_false]
    exact ih

theorem bus_of_claims {a : Addr} (h : 0xFF10 ≤ a.toNat ∧ a.toNat ≤ 0xFF3F) (d : Byte) (s : State) :
    busRead a s = readClaimed a s ∧ busWrite a d s = writeClaimed a d s := by
  obtain ⟨c, hc⟩ := exists_claims_iff.mpr h
  exact route_of_claims ⟨c, mem_routeOrder c, hc⟩ d s

/-- The rows of a register have the register's own READ and WRITE as their effect (R143, R145, R150). -/
theorem exec_registerRow (r : Reg) (d : Byte) (s : State) :
    exec (readOfReg r) s = stimulus (readRegister r) s ∧
      exec (writeOfReg d r) s = stimulus (writeRegister r d) s := by
  cases r <;> exact ⟨rfl, rfl⟩

theorem regAddr_range (r : Reg) : 0xFF10 ≤ (regAddr r).toNat ∧ (regAddr r).toNat ≤ 0xFF26 := by
  cases r <;> decide

/-- In 0xFF27 to 0xFF2F a READ answers 0xFF and a WRITE is ignored (R152, R153). -/
theorem access_unused {a : Addr} (h : 0xFF27 ≤ a.toNat ∧ a.toNat ≤ 0xFF2F) (d : Byte) (s : State) :
    readClaimed a s = giveAnswer (.byte 0xFF) s ∧ writeClaimed a d s = s := by
  have hreg : regOfAddr a = none := regOfAddr_of_outside (by omega)
  have hwave : ¬ 0xFF30 ≤ a.toNat := by omega
  simp only [readClaimed, writeClaimed, hreg, hwave, if_false, and_self]

/-- In 0xFF30 to 0xFF3F an access is one to the wave table (R341 to R344). -/
theorem access_wave (k : BitVec 4) (d : Byte) (s : State) :
    readClaimed (0xFF3#12 ++ k) s = readWave k.toNat s ∧ writeClaimed (0xFF3#12 ++ k) d s = writeWave k.toNat d s := by
  have ha := waveRow_toNat k
  have hreg : regOfAddr (0xFF3#12 ++ k) = none := regOfAddr_of_outside (by omega)
  simp only [readClaimed, writeClaimed, hreg, ha, Nat.le_add_right, if_true, Nat.add_sub_cancel_left, and_self]

/-- The row the decoder picks for an access has the effect of routing it (R112, R141, R142). -/
theorem exec_decode_eq_bus {s : State} (hf : s.fault = none) (a : Addr) (d : Byte) :
    exec (decodeRead a) s = .next (busRead a s) ∧ exec (decodeWrite a d) s = .next (busWrite a d s) := by
  rcases addr_cases a with ⟨r, rfl⟩ | rfl | ⟨k, rfl⟩ | ⟨k, rfl⟩ | h
  · have hrange := regAddr_range r
    obtain ⟨hread, hwrite⟩ := bus_of_claims (a := regAddr r) (by omega) d s
    obtain ⟨hrd, hwr⟩ := exec_registerRow r d s
    rw [decodeRead_regAddr, decodeWrite_regAddr, hrd, hwr, hread, hwrite, stimulus_none hf, stimulus_none hf,
      readClaimed, writeClaimed, regOfAddr_regAddr]
    exact ⟨rfl, rfl⟩
  · obtain ⟨hread, hwrite⟩ := bus_of_claims (a := 0xFF27) (by decide) d s
    rw [hread, hwrite]
    exact ⟨stimulus_none hf, stimulus_none hf⟩
  · have ha := unusedRow_toNat k
    obtain ⟨hread, hwrite⟩ := bus_of_claims (a := 0x1FE5#13 ++ k) (by omega) d s
    obtain ⟨hrd, hwr⟩ := access_unused (a := 0x1FE5#13 ++ k) (by omega) d s
    rw [hread, hwrite, hrd, hwr, (decode_unusedRow k).1, (decode_unusedRow k).2]
    exact ⟨stimulus_none hf, stimulus_none hf⟩
  · have ha := waveRow_toNat k
    obtain ⟨hread, hwrite⟩ := bus_of_claims (a := 0xFF3#12 ++ k) (by omega) d s
    obtain ⟨hrd, hwr⟩ := access_wave k d s
    rw [hread, hwrite, hrd, hwr, (decode_waveRow k).1, (decode_waveRow k).2]
    exact ⟨stimulus_none hf, stimulus_none hf⟩
  · obtain ⟨hread, hwrite⟩ := route_of_unclaimed h d s routeOrder
    rw [busRead, busWrite, hread, hwrite, (decode_unclaimed h).1, (decode_unclaimed h).2]
    exact ⟨stimulus_none hf, stimulus_none hf⟩

/-- Settles O12: each kind of row is what the owning component does, and each claimed address has one owner. -/
theorem busRoutingAgreesWithDecode : Obligations.BusRoutingAgreesWithDecode := by
  unfold Obligations.BusRoutingAgreesWithDecode
  exact ⟨fun a d s hf => exec_decode_eq_bus hf a d, fun _ _ _ => claims_unique, fun _ => exists_claims_iff⟩

/-! ### A few words of the map -/

/-- Settles O1: each stimulus word is the READ or WRITE word of its address, whose row the decoder looks up. -/
theorem decodesWordsOfTheSpec : Obligations.DecodesWordsOfTheSpec := by
  unfold Obligations.DecodesWordsOfTheSpec
  exact ⟨decode_packWord_read 0xFF10, decode_packWord_write 0xFF14 0x84, decode_packWord_read 0xFF15,
    decode_packWord_write 0xFF19 0x87, decode_packWord_write 0xFF1A 0x80, decode_packWord_write 0xFF23 0xC0,
    decode_packWord_read 0xFF26, decode_packWord_read 0xFF27, decode_packWord_write 0xFF2A 0x12,
    decode_packWord_read 0xFF3F, decode_packWord_write 0xFF30 0x55, decode_packWord_read 0xFF40,
    decode_packWord_write 0xFF0F 0x12, decode_packWord_cycle, decode_reservedOp rfl,
    decode_readWithData rfl (by decide), decode_cycleWithOperand rfl (by decide)⟩

end Sys2Proof.Machine
end

section
/-! Lemmas and proofs for the statements of 40_bus.md: the controller's own registers (O17, O18, O22), a side with
nothing to mix (O42), and a register read back after CYCLEs (O52). -/

namespace Sys2Proof.Machine
open Sys2Proof

/-! ### The controller's own addresses -/

/-- A register whose READ_MASK is 0 answers its stored byte (R143, R144). -/
theorem answerReg_of_mask_zero {r : Reg} (h : readMask r = 0) (s : State) :
    answerReg r s = giveAnswer (.byte (regGet s.regs r)) s := by
  simp [answerReg, h]

/-- Settles O17: NR50 and NR51 have no masked bit, and the other rows answer one constant. -/
theorem controllerReads : Obligations.ControllerReads := by
  unfold Obligations.ControllerReads
  intro s k a hf
  have hstored : ∀ r, readMask r = 0 →
      stimulus (answerReg r) s = .next { s with answers := s.answers ++ [.byte (regGet s.regs r)] } := fun r hr =>
    (stimulus_none hf).trans (congrArg _ (answerReg_of_mask_zero hr s))
  exact ⟨hstored .nr50 rfl, hstored .nr51 rfl, stimulus_none hf, stimulus_none hf, stimulus_none hf⟩

/-- Settles O22: a store of the register, or the idle effect. -/
theorem controllerWrites : Obligations.ControllerWrites := by
  unfold Obligations.ControllerWrites
  intro s d k a hf
  exact ⟨stimulus_none hf, stimulus_none hf, stimulus_none hf, stimulus_none hf, stimulus_none hf, stimulus_none hf⟩

/-- `is_enabled()` of each channel by its register bits (R210, R211). -/
theorem isEnabled_iff (s : State) :
    (isEnabled s .ch1 = true ↔ s.ch1.enabled = true ∧ s.regs.nr12 &&& 0xF8 ≠ 0 ∧ s.ch1.overflow = false) ∧
    (isEnabled s .ch2 = true ↔ s.ch2.enabled = true ∧ s.regs.nr22 &&& 0xF8 ≠ 0) ∧
    (isEnabled s .ch3 = true ↔ s.ch3.enabled = true ∧ s.regs.nr30.getLsbD 7 = true) ∧
    (isEnabled s .ch4 = true ↔ s.ch4.enabled = true ∧ s.regs.nr42 &&& 0xF8 ≠ 0) := by
  simp only [isEnabled, dac, envelopeDac_eq, Bool.and_eq_true, Bool.not_eq_true', decide_eq_true_eq, and_assoc,
    and_self]

/-- Settles O18: the answer is `nr52Value`, whose status bits are the `is_enabled()` of the channels. -/
theorem nr52ReadsPowerAndStatus : Obligations.Nr52ReadsPowerAndStatus := by
  unfold Obligations.Nr52ReadsPowerAndStatus
  intro s hf
  obtain ⟨h1, h2, h3, h4⟩ := isEnabled_iff s
  have hread : exec .rdNr52 s = .next (giveAnswer (.byte (nr52Value s)) s) := stimulus_none hf
  simp only [hread, giveAnswer, nr52Value, statusBits, h1, h2, h3, h4]

/-! ### A side with nothing to mix -/

theorem sideSum_eq_zero {routed : Channel → Bool} {s : State} (h : ∀ c, routed c = false ∨ isEnabled s c = false) :
    sideSum routed s = 0 := by
  have hside : ∀ c, (if routed c then outputAmplitude s c else 0) = 0 := by
    intro c
    rcases h c with hc | hc <;> simp [outputAmplitude, hc]
  simp only [sideSum, hside]

theorem mixSide_eq_zero {sum volume : Nat} (h : sum = 0 ∨ volume = 0) (c : Config) : mixSide sum volume c = 0 := by
  rcases h with rfl | rfl <;> simp [mixSide]

/-- Bits 7-4 of NR51 are the routes to the left (R62). -/
theorem routedLeft_eq_false {nr51 : Byte} (h : nr51.toNat / 16 = 0) (c : Channel) : routedLeft nr51 c = false := by
  have hbit : ∀ i, nr51.getLsbD (4 + i) = false := by
    intro i
    rw [BitVec.getLsbD, Nat.add_comm, ← Nat.testBit_div_two_pow, h, Nat.zero_testBit]
  cases c with
  | ch1 => exact hbit 0
  | ch2 => exact hbit 1
  | ch3 => exact hbit 2
  | ch4 => exact hbit 3

/-- Bits 3-0 of NR51 are the routes to the right (R62). -/
theorem routedRight_eq_false {nr51 : Byte} (h : nr51.toNat % 16 = 0) (c : Channel) : routedRight nr51 c = false := by
  have hbit : ∀ i, i < 4 → nr51.getLsbD i = false := by
    intro i hi
    have hlow := Nat.testBit_mod_two_pow nr51.toNat 4 i
    simpa [h, hi, BitVec.getLsbD] using hlow.symm
  cases c with
  | ch1 => exact hbit 0 (by decide)
  | ch2 => exact hbit 1 (by decide)
  | ch3 => exact hbit 2 (by decide)
  | ch4 => exact hbit 3 (by decide)

/-- Settles O42: without a route or an enabled channel the sum is 0, and a volume of 0 scales any sum to 0. -/
theorem silentSideMixesToZero : Obligations.SilentSideMixesToZero := by
  unfold Obligations.SilentSideMixesToZero
  refine fun s => ⟨fun h => ?_, fun h => ?_⟩
  · refine congrArg (BitVec.ofNat 8) (mixSide_eq_zero ?_ _)
    rcases h with h | h | h
    · exact .inl (sideSum_eq_zero fun c => .inl (routedLeft_eq_false h c))
    · exact .inl (sideSum_eq_zero fun c => .inr (h c))
    · exact .inr ((leftVolume_eq _).trans h)
  · refine congrArg (BitVec.ofNat 8) (mixSide_eq_zero ?_ _)
    rcases h with h | h | h
    · exact .inl (sideSum_eq_zero fun c => .inl (routedRight_eq_false h c))
    · exact .inl (sideSum_eq_zero fun c => .inr (h c))
    · exact .inr ((rightVolume_eq _).trans h)

/-! ### A WRITE, CYCLEs, and its READ -/

/-- No fault, a sequencer step in range, and the given answers so far: what the CYCLEs of a round trip keep. -/
structure Awaiting (answers : List Answer) (s : State) : Prop where
  correct : s.fault = none
  seqStep : s.ctl.seqStep ≤ 7
  answers : s.answers = answers

@[simp] theorem downsampled_seqStep (s : State) : (downsampled s).seqStep = s.ctl.seqStep := by
  unfold downsampled
  split
  · exact emitPair_seqStep _ _ _ _
  · rfl

theorem sequencerPhase_seqStep_le {s : State} (hf : s.fault = none) (hk : s.ctl.seqStep ≤ 7) :
    (sequencerPhase s).ctl.seqStep ≤ 7 := by
  rw [sequencerPhase_spec hf hk]
  dsimp only
  split <;> omega

/-- A CYCLE raises no fault from a step in range, leads to a step in range, and gives no answer (R423). -/
theorem Awaiting.cycle {as : List Answer} {s t : State} (h : Awaiting as s) (he : exec .cycle s = .next t) :
    Awaiting as t := by
  obtain ⟨hf, hk, ha⟩ := h
  have hcycle := execCycle_inRange hf hk
  obtain rfl : downsample (stepAll (sequencerPhase s)) = t := Host.Outcome.next.inj (hcycle.symm.trans he)
  have hfault : (sequencerPhase s).fault = none := by rw [sequencerPhase_spec hf hk]; exact hf
  obtain ⟨_, _, hanswers⟩ := sequencerPhase_inputs hf hk
  exact ⟨hfault, (downsampled_seqStep _).trans_le (sequencerPhase_seqStep_le hf hk), hanswers.trans ha⟩

/-- The register reads back as the byte does, but for what NR52 adds (R143, R156). -/
structure RegisterHeld (r : Reg) (d : Byte) (answers : List Answer) (s : State) : Prop extends Awaiting answers s where
  byte : regGet s.regs r ||| readMask r = d ||| readMask r

/-- Under a mask that is 1 where `m` is 0, a byte counts only by its bits in `m`. -/
theorem or_eq_and_or_of_cover {m k : Byte} (h : m ||| k = BitVec.allOnes 8) (x : Byte) : x ||| k = (x &&& m) ||| k := by
  ext i hi
  have hcover : (m ||| k)[i] = true := by rw [h, BitVec.getElem_allOnes]
  rw [BitVec.getElem_or] at hcover
  rw [BitVec.getElem_or, BitVec.getElem_or, BitVec.getElem_and]
  rcases Bool.or_eq_true_iff.mp hcover with hm | hk
  · rw [hm, Bool.and_true]
  · rw [hk, Bool.or_true, Bool.or_true]

/-- Bits 7-3 of NR14 hold all that its READ_MASK lets through, the length enable. -/
theorem or_BF_of_and_F8 {a b : Byte} (h : a &&& 0xF8 = b &&& 0xF8) : a ||| 0xBF = b ||| 0xBF := by
  have hcover : (0xF8 : Byte) ||| 0xBF = BitVec.allOnes 8 := by decide
  rw [or_eq_and_or_of_cover hcover a, h, ← or_eq_and_or_of_cover hcover b]

/-- What a sweep commit writes, NR13 and bits 2-0 of NR14, is masked on a READ (R156, R305). -/
theorem masked_regGet_of_cycleFrame {f g : RegFile} (hframe : g = { f with nr13 := g.nr13, nr14 := g.nr14 })
    (hhigh : g.nr14 &&& 0xF8 = f.nr14 &&& 0xF8) (r : Reg) : regGet g r ||| readMask r = regGet f r ||| readMask r := by
  cases r with
  | nr13 => exact BitVec.or_allOnes.trans BitVec.or_allOnes.symm
  | nr14 => exact or_BF_of_and_F8 hhigh
  | _ => rw [hframe]; rfl

theorem RegisterHeld.cycle {r : Reg} {d : Byte} {as : List Answer} {s : State} (h : RegisterHeld r d as s) :
    ∃ t, exec .cycle s = .next t ∧ RegisterHeld r d as t := by
  obtain ⟨t, he, hframe, hhigh, _⟩ := cycleFrame s h.correct h.seqStep
  exact ⟨t, he, h.toAwaiting.cycle he, (masked_regGet_of_cycleFrame hframe hhigh r).trans h.byte⟩

/-- A length load or trigger writes no register and gives no answer (R202, R215). -/
theorem writeSideEffect_frame (r : Reg) (d : Byte) (s : State) :
    (writeSideEffect r d s).regs = s.regs ∧ (writeSideEffect r d s).fault = s.fault ∧
    (writeSideEffect r d s).ctl = s.ctl ∧ (writeSideEffect r d s).answers = s.answers := by
  have hself : s.regs = s.regs ∧ s.fault = s.fault ∧ s.ctl = s.ctl ∧ s.answers = s.answers := ⟨rfl, rfl, rfl, rfl⟩
  cases r with
  | nr14 | nr24 | nr34 | nr44 =>
    exact whenTriggerBit_ind (P := fun t => t.regs = s.regs ∧ t.fault = s.fault ∧ t.ctl = s.ctl ∧ t.answers = s.answers)
      hself hself
  | _ => exact hself

theorem registerHeld_writeRegister {as : List Answer} {s : State} (h : Awaiting as s) (r : Reg) (d : Byte) :
    RegisterHeld r d as (writeRegister r d s) := by
  obtain ⟨hregs, hfault, hctl, hanswers⟩ := writeSideEffect_frame r d (storeReg r d s)
  exact {
    correct := hfault.trans h.correct
    seqStep := (congrArg Controller.seqStep hctl).trans_le h.seqStep
    answers := hanswers.trans h.answers
    byte := by rw [writeRegister, hregs, storeReg_regs, regGet_regSet_same] }

/-- The READ_MASK of NR52 lets bit 7 through, the only stored bit in its answer (R150). -/
theorem nr52Value_of_masked {s : State} {d : Byte} (h : s.regs.nr52 ||| 0x70 = d ||| 0x70) :
    nr52Value s = (d &&& 0x80) ||| 0x70 ||| statusBits s := by
  have hpower : s.regs.nr52 &&& 0x80 = d &&& 0x80 := by
    simpa [BitVec.and_or_distrib_right] using congrArg (· &&& (0x80 : Byte)) h
  rw [nr52Value, hpower]

/-- What a READ answers while the register holds the byte (R143, R150). -/
theorem RegisterHeld.readRegister {r : Reg} {d : Byte} {as : List Answer} {s : State} (h : RegisterHeld r d as s) :
    (readRegister r s).answers =
      as ++ [.byte (if r = .nr52 then (d &&& 0x80) ||| 0x70 ||| statusBits s else d ||| readMask r)] := by
  unfold Machine.readRegister
  split
  next hr =>
    subst hr
    rw [giveAnswer_answers, h.answers, nr52Value_of_masked h.byte]
  next => rw [answerReg, giveAnswer_answers, h.answers, h.byte]

/-- The status bits do not depend on the answers given. -/
theorem statusBits_readRegister (r : Reg) (s : State) : statusBits (readRegister r s) = statusBits s := by
  unfold readRegister
  split <;> rfl

/-- A round trip: what the first instruction establishes and CYCLE keeps holds when the last one runs. -/
theorem runAll_roundTrip {P : State → Prop} (hcycle : ∀ s, P s → ∃ t, exec .cycle s = .next t ∧ P t)
    {first last : Instr} {s u : State} (hfirst : exec first s = .next u) (hu : P u) (n : Nat) :
    ∃ v, P v ∧ ∀ t, exec last v = .next t → runAll (first :: List.replicate n .cycle ++ [last]) s = .next t := by
  obtain ⟨v, hrun, hv⟩ := runAll_cycles (P := fun _ => P) (fun _ => hcycle) n 0 hu
  refine ⟨v, hv, fun t ht => ?_⟩
  rw [List.cons_append, runAll_cons hfirst, runAll_append hrun, runAll_cons ht, runAll_nil]

/-- A round trip in the unused range: the WRITE is ignored and the READ answers 0xFF (R152, R153). -/
theorem unusedRoundTrip {s : State} (h : Awaiting s.answers s) {wr rd : Instr} (hwr : exec wr s = .next s)
    (hrd : ∀ v, exec rd v = stimulus (giveAnswer (.byte 0xFF)) v) (n : Nat) :
    ∃ t, runAll (wr :: List.replicate n .cycle ++ [rd]) s = .next t ∧ t.answers = s.answers ++ [.byte 0xFF] := by
  have hcycle : ∀ u, Awaiting s.answers u → ∃ t, exec .cycle u = .next t ∧ Awaiting s.answers t := fun u hu =>
    ⟨_, execCycle_inRange hu.correct hu.seqStep, hu.cycle (execCycle_inRange hu.correct hu.seqStep)⟩
  obtain ⟨v, hv, hrun⟩ := runAll_roundTrip hcycle hwr h n
  exact ⟨_, hrun _ ((hrd v).trans (stimulus_none hv.correct)), by rw [giveAnswer_answers, hv.answers]⟩

/-- Settles O52: the WRITE establishes `RegisterHeld`, each CYCLE keeps it, and then the READ answers as R156 says. -/
theorem registerRoundTripThroughCycles : Obligations.RegisterRoundTripThroughCycles := by
  unfold Obligations.RegisterRoundTripThroughCycles
  refine ⟨fun s r d n hf hk => ?_, fun s k d n hf hk => ?_⟩
  · have hwrite : exec (writeOfReg d r) s = .next (writeRegister r d s) :=
      (exec_registerRow r d s).2.trans (stimulus_none hf)
    obtain ⟨v, hv, hrun⟩ := runAll_roundTrip (fun _ => RegisterHeld.cycle) hwrite
      (registerHeld_writeRegister ⟨hf, hk, rfl⟩ r d) n
    have hread : exec (readOfReg r) v = .next (readRegister r v) :=
      (exec_registerRow r d v).1.trans (stimulus_none hv.correct)
    refine ⟨_, hrun _ hread, ?_⟩
    rw [statusBits_readRegister, hv.readRegister]
  · have hs : Awaiting s.answers s := ⟨hf, hk, rfl⟩
    obtain ⟨t, ht, hanswer⟩ := unusedRoundTrip hs (wr := .wrUnused27 d) (rd := .rdUnused27)
      (stimulus_none hf) (fun _ => rfl) n
    obtain ⟨t', ht', hanswer'⟩ := unusedRoundTrip hs (wr := .wrUnused28 k d) (rd := .rdUnused28 k)
      (stimulus_none hf) (fun _ => rfl) n
    exact ⟨t, t', ht, ht', hanswer, hanswer'⟩

end Sys2Proof.Machine
end

section
/-! Lemmas and proofs for the statements of 41_channel_common.md: the length counters (O23, O32, O33), the triggers (O24
to O27), the flags and the silenced output (O44, O48), the envelopes (O34, O49), the pulse timers (O37), a tick out of
range (O11), and that no channel reads another (O59). -/

namespace Sys2Proof.Machine
open Sys2Proof

/-! ### The output behind the DAC -/

theorem outputAmplitude_of_not_isEnabled {s : State} {c : Channel} (h : isEnabled s c = false) :
    outputAmplitude s c = 0 := by
  simp [outputAmplitude, h]

/-- A channel whose DAC is off is not enabled, whatever its flag (R211). -/
theorem isEnabled_of_dac_off {s : State} {c : Channel} (h : dac s.regs c = false) : isEnabled s c = false := by
  cases c <;> simp [isEnabled, h]

theorem isEnabled_of_enabled {s : State} {c : Channel} (he : (chanOf s c).enabled = true) (hd : dac s.regs c = true)
    (ho : c = .ch1 → s.ch1.overflow = false) : isEnabled s c = true := by
  cases c with
  | ch1 => simp [isEnabled, hd, ho rfl, show s.ch1.enabled = true from he]
  | ch2 => simp [isEnabled, hd, show s.ch2.enabled = true from he]
  | ch3 => simp [isEnabled, hd, show s.ch3.enabled = true from he]
  | ch4 => simp [isEnabled, hd, show s.ch4.enabled = true from he]

theorem envelopeDac_iff {nrx2 : Byte} : envelopeDac nrx2 = true ↔ nrx2 &&& 0xF8 ≠ 0 := by
  rw [envelopeDac_eq, decide_eq_true_eq]

theorem envelopeDac_eq_false {nrx2 : Byte} (h : nrx2 &&& 0xF8 = 0) : envelopeDac nrx2 = false := by
  rw [envelopeDac_eq, decide_eq_false_iff_not, not_not]
  exact h

/-- Settles O44: with its DAC off a channel is not enabled, and one that is not enabled puts out 0. -/
theorem dacOffSilences : Obligations.DacOffSilences := by
  unfold Obligations.DacOffSilences
  intro s
  have hoff : ∀ {c}, dac s.regs c = false → outputAmplitude s c = 0 := fun h =>
    outputAmplitude_of_not_isEnabled (isEnabled_of_dac_off h)
  refine ⟨fun h => hoff (envelopeDac_eq_false h), fun h => hoff (envelopeDac_eq_false h), fun h => hoff h,
    fun h => hoff (envelopeDac_eq_false h), fun c => ⟨rfl, fun h => ?_⟩, envelopeDac_iff, envelopeDac_iff, Iff.rfl,
    envelopeDac_iff⟩
  unfold outputAmplitude
  split <;> omega

/-! ### Length loads and triggers -/

/-- Settles O23: the load reads the byte just stored. -/
theorem lengthLoads : Obligations.LengthLoads := by
  unfold Obligations.LengthLoads
  intro s d hf
  rw [← lengthLoad6_eq]
  exact ⟨stimulus_none hf, stimulus_none hf, stimulus_none hf, stimulus_none hf⟩

/-- The envelope reload by the bits of NRx2 (R217). -/
theorem envelopeReload_eq (nrx2 : Byte) : envelopeReload nrx2 =
    { vol := nrx2.toNat / 16
      envTimer := if nrx2.toNat % 8 = 0 then 8 else nrx2.toNat % 8
      envActive := true } := by
  simp only [envelopeReload, envVolume_eq, envPeriod_eq]

/-- The sweep after a trigger by the bits of NR10 (R302, R303). -/
theorem sweepTrigger_eq (f : RegFile) : sweepTrigger f =
    { shadow := freq1 f
      sweepTimer := if f.nr10.toNat / 16 % 8 = 0 then 8 else f.nr10.toNat / 16 % 8
      sweepEnabled := decide (0 < f.nr10.toNat / 16 % 8 ∨ 0 < f.nr10.toNat % 8)
      overflow := decide (0 < f.nr10.toNat % 8 ∧ 2047 < calcResult f.nr10 (freq1 f)) } := by
  unfold sweepTrigger sweepCheck
  simp only [sweepReloaded, sweepReload, sweepPeriod_eq, sweepShift_eq, sweepTarget_eq, Bool.decide_or]
  by_cases hshift : 0 < f.nr10.toNat % 8
  · by_cases hover : 2047 < calcResult f.nr10 (freq1 f) <;> simp [hshift, hover]
  · simp [hshift]

/-- A WRITE of NRx4 stores the byte, and triggers exactly if its bit 7 is 1 (R216). -/
theorem writeNrx4_outcome {s : State} (hf : s.fault = none) (d : Byte) (r : Reg) (trigger : State → State) :
    stimulus (fun s => whenTriggerBit d trigger (storeReg r d s)) s =
      .next (if d.getLsbD 7 = false then storeReg r d s else trigger (storeReg r d s)) := by
  rw [stimulus_none hf, whenTriggerBit, triggerBit_eq]
  cases d.getLsbD 7 <;> rfl

/-- The trigger of channel 1 by the register bits (R215, R217, R274, R302, R303). -/
theorem triggerCh1_eq (s : State) : triggerCh1 s = { s with ch1 :=
    { enabled := decide (s.regs.nr12 &&& 0xF8 ≠ 0)
      length := if s.ch1.length = 0 then 64 else s.ch1.length
      timer := (2048 - freq1 s.regs) * 4
      amp := 0
      toEnvelope := envelopeReload s.regs.nr12
      toSweep := sweepTrigger s.regs
      phase := 0 } } := by
  simp only [triggerCh1, chanTrigger, dac, envelopeDac_eq, pulseReload]

theorem triggerCh2_eq (s : State) : triggerCh2 s = { s with ch2 :=
    { enabled := decide (s.regs.nr22 &&& 0xF8 ≠ 0)
      length := if s.ch2.length = 0 then 64 else s.ch2.length
      timer := (2048 - freq2 s.regs) * 4
      amp := 0
      toEnvelope := envelopeReload s.regs.nr22
      phase := 0 } } := by
  simp only [triggerCh2, chanTrigger, dac, envelopeDac_eq, pulseReload]

theorem triggerCh3_eq (s : State) : triggerCh3 s = { s with ch3 :=
    { enabled := s.regs.nr30.getLsbD 7
      length := if s.ch3.length = 0 then 256 else s.ch3.length
      timer := (2048 - freq3 s.regs) * 2
      amp := 0
      wave := s.ch3.wave
      pos := 0
      accessAge := s.ch3.accessAge } } := by
  simp only [triggerCh3, chanTrigger, dac, waveReload]

theorem triggerCh4_eq (s : State) : triggerCh4 s = { s with ch4 :=
    { enabled := decide (s.regs.nr42 &&& 0xF8 ≠ 0)
      length := if s.ch4.length = 0 then 64 else s.ch4.length
      timer := noiseReload s.regs.nr43
      amp := 0
      toEnvelope := envelopeReload s.regs.nr42
      lfsr := 0x7FFF } } := by
  simp only [triggerCh4, chanTrigger, dac, envelopeDac_eq]

/-- Settles O24: NR14 is stored first, so the trigger reads the new frequency bits. -/
theorem channel1TriggerWrite : Obligations.Channel1TriggerWrite := by
  unfold Obligations.Channel1TriggerWrite
  intro s d hf
  refine (writeNrx4_outcome hf d .nr14 triggerCh1).trans ?_
  simp only [triggerCh1_eq, envelopeReload_eq, sweepTrigger_eq, freq1, frequency_eq]
  rfl

/-- Settles O25: as O24, without the sweep. -/
theorem channel2TriggerWrite : Obligations.Channel2TriggerWrite := by
  unfold Obligations.Channel2TriggerWrite
  intro s d hf
  refine (writeNrx4_outcome hf d .nr24 triggerCh2).trans ?_
  simp only [triggerCh2_eq, envelopeReload_eq, freq2, frequency_eq]
  rfl

/-- Settles O26: the DAC predicate is NR30 bit 7, and the trigger writes no wave byte. -/
theorem channel3TriggerWrite : Obligations.Channel3TriggerWrite := by
  unfold Obligations.Channel3TriggerWrite
  intro s d hf
  refine (writeNrx4_outcome hf d .nr34 triggerCh3).trans ?_
  simp only [triggerCh3_eq, freq3, frequency_eq]
  rfl

/-- Settles O27: the timer is the reload of NR43. -/
theorem channel4TriggerWrite : Obligations.Channel4TriggerWrite := by
  unfold Obligations.Channel4TriggerWrite
  intro s d hf
  refine (writeNrx4_outcome hf d .nr44 triggerCh4).trans ?_
  simp only [triggerCh4_eq, envelopeReload_eq, noiseReload_eq]
  rfl

/-! ### A CYCLE with no tick, and with a tick out of range -/

theorem masterCycle_counting {s : State} (hf : s.fault = none) (h : seqExpires s = false) :
    masterCycle s = downsample (stepAll (countSequencer s)) := by
  rw [masterCycle, sequencerPhase_counting h]
  exact unlessFaulted_none (s := countSequencer s) hf

/-- The first tick records the contract violation, and nothing after it happens (R213, R500; log 5). -/
theorem masterCycle_outOfRange {s : State} (hf : s.fault = none) (h : seqExpires s = true) (hk : 7 < s.ctl.seqStep) :
    masterCycle s = raiseFault (.tickStepOutOfRange s.ctl.seqStep) (countSequencer s) := by
  have hcount : s.ctl.seqCount - 1 = 0 := seqExpires_iff.mp h
  have hphase : sequencerPhase s = raiseFault (.tickStepOutOfRange s.ctl.seqStep) (countSequencer s) := by
    rw [sequencerPhase, if_pos hcount, tickAll_outOfRange (s := countSequencer s) hf hk, unlessFaulted_some rfl]
  rw [masterCycle, hphase, unlessFaulted_some rfl]

/-- Settles O11: the only thing left of the CYCLE is the countdown and the fault mark. -/
theorem cycleWithSequencerStepOutOfRange : Obligations.CycleWithSequencerStepOutOfRange := by
  unfold Obligations.CycleWithSequencerStepOutOfRange
  intro s hf h hk
  exact (stimulus_none hf).trans (congrArg _ (masterCycle_outOfRange hf h hk))

/-! ### The length counters -/

/-- A tick runs the length clock of each channel if its step is even, and writes nothing else of what the channels
share (R203, R214). -/
theorem sequencerPhase_chanOf {s : State} (hf : s.fault = none) (hk : s.ctl.seqStep ≤ 7) (c : Channel) :
    chanOf (sequencerPhase s) c =
      if seqExpires s = true ∧ s.ctl.seqStep % 2 = 0 then lengthClock (nrx4 s.regs c) (chanOf s c) else chanOf s c := by
  rw [sequencerPhase_spec hf hk]
  cases c <;> rfl

/-- The channel steps leave the length and the flag (R421). -/
theorem stepAll_length_enabled (s : State) (c : Channel) :
    (chanOf (stepAll s) c).length = (chanOf s c).length ∧ (chanOf (stepAll s) c).enabled = (chanOf s c).enabled := by
  cases c <;> simp [chanOf, stepAll_spec]

theorem cycle_length_enabled {s : State} (hf : s.fault = none) (hk : s.ctl.seqStep ≤ 7) (c : Channel) :
    let t := downsample (stepAll (sequencerPhase s))
    (chanOf t c).length =
      (if seqExpires s = true ∧ s.ctl.seqStep % 2 = 0 ∧ (nrx4 s.regs c).getLsbD 6 = true ∧ 0 < (chanOf s c).length
      then (chanOf s c).length - 1 else (chanOf s c).length) ∧
    (chanOf t c).enabled =
      (if seqExpires s = true ∧ s.ctl.seqStep % 2 = 0 ∧ (nrx4 s.regs c).getLsbD 6 = true ∧ (chanOf s c).length = 1
      then false else (chanOf s c).enabled) := by
  intro t
  have ht : chanOf t c = chanOf (stepAll (sequencerPhase s)) c := by cases c <;> rfl
  obtain ⟨hlength, henabled⟩ := stepAll_length_enabled (sequencerPhase s) c
  rw [ht, hlength, henabled, sequencerPhase_chanOf hf hk]
  by_cases hclock : seqExpires s = true ∧ s.ctl.seqStep % 2 = 0
  · rw [if_pos hclock, lengthClock_length, lengthClock_enabled]
    simp only [hclock, lengthEnable_eq, true_and]
    exact ⟨rfl, rfl⟩
  · simp only [← and_assoc, hclock, false_and, if_false, and_self]

/-- Settles O32: the sequencer's part clocks the length, and the rest of the CYCLE leaves it. -/
theorem cycleLengthClocks : Obligations.CycleLengthClocks := by
  unfold Obligations.CycleLengthClocks
  intro s hf hk _
  exact ⟨_, execCycle_inRange hf hk, cycle_length_enabled hf hk⟩

/-- A raw tick of an even step runs the channel's length clock; the sweep and envelope clocks leave what it writes
(R214). -/
theorem apiTick_chanOf {k : Nat} {s : State} (hf : s.fault = none) (hk : k ≤ 7) (c : Channel) :
    chanOf (apiTick c k s) c =
      if k % 2 = 0 then lengthClock (nrx4 s.regs c) (chanOf s c) else chanOf s c := by
  rw [apiTick, tickChannel_inRange hf hk]
  cases c <;> simp only [subClocks, applyIf, decide_eq_true_eq] <;> (repeat' split) <;> rfl

/-- A tick writes no register but those a sweep clock writes (R305). -/
theorem subClocks_regs (k : Nat) (s : State) (c : Channel) :
    (subClocks k s c).regs = s.regs ∨ (subClocks k s c).regs = (sweepClock s.regs s.ch1.toSweep).2 := by
  cases c with
  | ch1 =>
    by_cases hk : k = 2 ∨ k = 6
    · exact .inr (by rcases hk with rfl | rfl <;> rfl)
    · refine .inl ?_
      simp only [subClocks, applyIf, decide_eq_true_eq, hk, if_false]
      (repeat' split) <;> rfl
  | _ =>
    refine .inl ?_
    simp only [subClocks, applyIf]
    (repeat' split) <;> rfl

theorem getLsbD_6_of_and_F8 {a b : Byte} (h : a &&& 0xF8 = b &&& 0xF8) : a.getLsbD 6 = b.getLsbD 6 := by
  simpa using congrArg (·.getLsbD 6) h

/-- A sweep clock leaves every channel's length enable: a commit writes only bits 2-0 of NR14 (R305). -/
theorem sweepClock_lengthEnable (f : RegFile) (w : Sweep) (c : Channel) :
    (nrx4 (sweepClock f w).2 c).getLsbD 6 = (nrx4 f c).getLsbD 6 := by
  cases c with
  | ch1 => exact getLsbD_6_of_and_F8 (sweepClock_nr14_high f w)
  | ch2 => exact congrArg (·.getLsbD 6) (sweepClock_nr24 f w)
  | ch3 => exact congrArg (·.getLsbD 6) (sweepClock_nr34 f w)
  | ch4 => exact congrArg (·.getLsbD 6) (sweepClock_nr44 f w)

/-- A raw tick in range of a channel with length enabled leaves it so, and lowers the length on an even step (R203). -/
theorem apiTick_lengthEnabled {c : Channel} {k : Nat} {s : State} (hf : s.fault = none) (hk : k ≤ 7)
    (hen : (nrx4 s.regs c).getLsbD 6 = true) :
    (apiTick c k s).fault = none ∧ (nrx4 (apiTick c k s).regs c).getLsbD 6 = true ∧
    (chanOf (apiTick c k s) c).length = (if k % 2 = 0 then (chanOf s c).length - 1 else (chanOf s c).length) ∧
    (chanOf (apiTick c k s) c).enabled =
      (if k % 2 = 0 ∧ (chanOf s c).length = 1 then false else (chanOf s c).enabled) := by
  rw [apiTick_chanOf hf hk, apiTick, tickChannel_inRange hf hk]
  refine ⟨(subClocks_fault k s c).trans hf, ?_, ?_⟩
  · rcases subClocks_regs k s c with h | h <;> rw [h]
    · exact hen
    · exact (sweepClock_lengthEnable _ _ c).trans hen
  · by_cases heven : k % 2 = 0
    · simp only [heven, if_true, lengthClock_length, lengthClock_enabled, lengthEnable_eq, hen, true_and, and_true]
      split <;> omega
    · simp only [heven, if_false, false_and, and_self]

/-- Settles O33, by induction on the ticks: one even step uses up one of the length's ticks, and the channel is disabled
by the tick that finds it at 1. -/
theorem lengthExpiresAfterItsTicks : Obligations.LengthExpiresAfterItsTicks := by
  unfold Obligations.LengthExpiresAfterItsTicks
  intro s c steps hf hsteps hen
  induction steps generalizing s with
  | nil =>
    have hnone : ¬ (0 < (chanOf s c).length ∧ (chanOf s c).length ≤ 0) := by omega
    simp only [List.foldl_nil, List.countP_nil, hnone, Nat.sub_zero, if_false, and_self]
  | cons k steps ih =>
    obtain ⟨hk, hrest⟩ := List.forall_mem_cons.mp hsteps
    obtain ⟨hf', hen', hlength, henabled⟩ := apiTick_lengthEnabled hf hk hen
    obtain ⟨ihlength, ihenabled⟩ := ih (apiTick c k s) hf' hrest hen'
    rw [List.foldl_cons, ihlength, ihenabled, hlength, henabled, List.countP_cons]
    by_cases heven : k % 2 = 0
    · simp only [heven, decide_true, if_true, true_and]
      refine ⟨by omega, ?_⟩
      by_cases hone : (chanOf s c).length = 1
      · rw [hone, if_pos rfl, ite_self, if_pos (by omega)]
      · rw [if_neg hone]
        exact if_congr (by omega) rfl rfl
    · simp only [heven, decide_false, if_false, false_and, Bool.false_eq_true, Nat.add_zero, and_self]

/-! ### The envelopes -/

/-- The envelope clock does what R205 says, at a timer, volume and period of any size. -/
theorem envelopeClocked_envelopeClock (r : Byte) (e : Envelope) : EnvelopeClocked r e (envelopeClock r e) := by
  have hperiod := envPeriod_eq r
  unfold EnvelopeClocked
  rcases envelopeClock_cases r e with ⟨h0, h⟩ | ⟨h0, h1, h⟩ | ⟨h0, h1, hact, h⟩ | ⟨h0, h1, hact, h⟩ <;> rw [h]
  · rw [if_pos (by omega)]
  · rw [if_neg (by omega), if_pos h1]
  · rw [if_neg (by omega), if_neg (by omega), if_pos hact, hperiod]
  · rw [if_neg (by omega), if_neg (by omega), if_neg (by simp [hact])]
    unfold envelopeMove movedVol envIncrease
    cases r.getLsbD 3 <;> simp [hact, hperiod]

/-- NRx2 of a channel: for channels 1, 2 and 4 it holds the envelope's direction and period (R43, R48, R58); channel 3
has no envelope, and for it nothing reads the value. -/
def nrx2 (f : RegFile) : Channel → Byte
  | .ch1 => f.nr12
  | .ch2 => f.nr22
  | .ch3 => f.nr32
  | .ch4 => f.nr42

/-- The part of a channel that nothing but its triggers and the sequencer's ticks writes: the enabled flag, and the
envelope and the sweep of a channel that has one. -/
structure Armed where
  enabled  : Bool
  envelope : Option Envelope
  sweep    : Option Sweep

def armed (s : State) : Channel → Armed
  | .ch1 => { enabled := s.ch1.enabled, envelope := some s.ch1.toEnvelope, sweep := some s.ch1.toSweep }
  | .ch2 => { enabled := s.ch2.enabled, envelope := some s.ch2.toEnvelope, sweep := none }
  | .ch3 => { enabled := s.ch3.enabled, envelope := none, sweep := none }
  | .ch4 => { enabled := s.ch4.enabled, envelope := some s.ch4.toEnvelope, sweep := none }

theorem armed_enabled (s : State) (c : Channel) : (armed s c).enabled = (chanOf s c).enabled := by cases c <;> rfl

/-- `trigger()` of a channel (R215). -/
def triggerOf : Channel → State → State
  | .ch1 => triggerCh1
  | .ch2 => triggerCh2
  | .ch3 => triggerCh3
  | .ch4 => triggerCh4

theorem armed_triggerOf_other {c c' : Channel} (h : c ≠ c') (s : State) : armed (triggerOf c' s) c = armed s c := by
  cases c' with
  | ch1 => cases c with | ch1 => exact absurd rfl h | _ => rfl
  | ch2 => cases c with | ch2 => exact absurd rfl h | _ => rfl
  | ch3 => cases c with | ch3 => exact absurd rfl h | _ => rfl
  | ch4 => cases c with | ch4 => exact absurd rfl h | _ => rfl

/-- The register a trigger is written to (R216). -/
def nrx4Reg : Channel → Reg
  | .ch1 => .nr14
  | .ch2 => .nr24
  | .ch3 => .nr34
  | .ch4 => .nr44

theorem armed_storeReg (r : Reg) (d : Byte) (s : State) (c : Channel) : armed (storeReg r d s) c = armed s c := by
  cases c <;> rfl

theorem exec_writeNrx4 (d : Byte) (c : Channel) (s : State) :
    exec (writeNrx4 d c) s = stimulus (fun s => whenTriggerBit d (triggerOf c) (storeReg (nrx4Reg c) d s)) s := by
  cases c <;> rfl

/-- A WRITE of NRx4 that is no trigger of the channel leaves what its triggers write. -/
theorem armed_writeNrx4 {c : Channel} {d : Byte} {c' : Channel} (h : ¬ IsTrigger c (writeNrx4 d c')) (s : State) :
    armed (whenTriggerBit d (triggerOf c') (storeReg (nrx4Reg c') d s)) c = armed s c := by
  have hstored := armed_storeReg (nrx4Reg c') d s c
  by_cases hc : c = c'
  · subst hc
    have hbit : ¬ triggerBit d = true := fun hd => h ⟨d, hd, rfl⟩
    rw [whenTriggerBit, if_neg hbit, hstored]
  · exact whenTriggerBit_ind (P := fun t => armed t c = armed s c) hstored
      ((armed_triggerOf_other hc _).trans hstored)

theorem armed_readWave (k : Nat) (s : State) (c : Channel) : armed (readWave k s) c = armed s c := by
  unfold readWave
  split <;> cases c <;> rfl

theorem armed_writeWave (k : Nat) (d : Byte) (s : State) (c : Channel) : armed (writeWave k d s) c = armed s c := by
  rcases writeWave_cases k d s with ⟨j, _, h⟩ | ⟨_, h⟩ <;> rw [h]
  cases c <;> rfl

/-- An instruction is CYCLE, or a trigger of the channel, or leaves what these two write of it (R218). -/
theorem exec_armed_cases (i : Instr) (c : Channel) :
    i = .cycle ∨ IsTrigger c i ∨ ∀ s t, exec i s = .next t → armed t c = armed s c := by
  by_cases htrigger : IsTrigger c i
  · exact .inr (.inl htrigger)
  have hkeeps : ∀ f : State → State, (∀ s, armed (f s) c = armed s c) →
      ∀ s t, stimulus f s = .next t → armed t c = armed s c := by
    intro f hf s t h
    rw [stimulus_next.mp h]
    exact unlessFaulted_ind (P := fun u => armed u c = armed s c) rfl (hf s)
  cases i with
  | cycle => exact .inl rfl
  | wrNr14 d => exact .inr (.inr (hkeeps _ (armed_writeNrx4 (c' := .ch1) htrigger)))
  | wrNr24 d => exact .inr (.inr (hkeeps _ (armed_writeNrx4 (c' := .ch2) htrigger)))
  | wrNr34 d => exact .inr (.inr (hkeeps _ (armed_writeNrx4 (c' := .ch3) htrigger)))
  | wrNr44 d => exact .inr (.inr (hkeeps _ (armed_writeNrx4 (c' := .ch4) htrigger)))
  | rdWave k => exact .inr (.inr (hkeeps _ fun s => armed_readWave k.toNat s c))
  | wrWave k d => exact .inr (.inr (hkeeps _ fun s => armed_writeWave k.toNat d s c))
  | _ => exact .inr (.inr (hkeeps _ fun _ => by cases c <;> rfl))

theorem armed_stepAll (s : State) (c : Channel) : armed (stepAll s) c = armed s c := by
  cases c <;> simp [armed, stepAll_spec]

theorem armed_downsample (s : State) (c : Channel) : armed (downsample s) c = armed s c := by cases c <;> rfl

/-- A CYCLE leaves what triggers and ticks write unless it ticks a step in range (R218, R424). -/
theorem cycle_armed {s t : State} (h : exec .cycle s = .next t) (c : Channel) :
    armed t c = armed s c ∨ (s.fault = none ∧ s.ctl.seqStep ≤ 7 ∧ seqExpires s = true) := by
  have ht : t = unlessFaulted masterCycle s := stimulus_next.mp h
  cases hf : s.fault with
  | some r =>
    rw [ht, unlessFaulted_some hf]
    exact .inl rfl
  | none =>
    rw [ht, unlessFaulted_none hf]
    cases hx : seqExpires s
    · rw [masterCycle_counting hf hx, armed_downsample, armed_stepAll]
      exact .inl (by cases c <;> rfl)
    · by_cases hk : s.ctl.seqStep ≤ 7
      · exact .inr ⟨rfl, hk, rfl⟩
      · rw [masterCycle_outOfRange hf hx (by omega)]
        exact .inl (by cases c <;> rfl)

/-- A tick of step 7 clocks the envelopes, and no other part of a CYCLE writes them (R205, R214). -/
theorem cycle_envelope {s : State} (hf : s.fault = none) (hk : s.ctl.seqStep ≤ 7) (c : Channel) :
    (armed (downsample (stepAll (sequencerPhase s))) c).envelope =
      if seqExpires s = true ∧ s.ctl.seqStep = 7 then (armed s c).envelope.map (envelopeClock (nrx2 s.regs c))
      else (armed s c).envelope := by
  rw [armed_downsample, armed_stepAll, sequencerPhase_spec hf hk]
  by_cases h7 : seqExpires s = true ∧ s.ctl.seqStep = 7 <;> cases c <;> simp [armed, h7, nrx2]

/-- Settles O34: `cycle_envelope` for each channel with an envelope, whose clock is R205's. -/
theorem cycleEnvelopeClocks : Obligations.CycleEnvelopeClocks := by
  unfold Obligations.CycleEnvelopeClocks
  intro s hf hk _
  refine ⟨_, execCycle_inRange hf hk, ?_⟩
  have h1 := cycle_envelope hf hk .ch1
  have h2 := cycle_envelope hf hk .ch2
  have h4 := cycle_envelope hf hk .ch4
  by_cases h7 : seqExpires s = true ∧ s.ctl.seqStep = 7
  · rw [if_pos h7] at h1 h2 h4 ⊢
    rw [Option.some.inj h1, Option.some.inj h2, Option.some.inj h4]
    exact ⟨envelopeClocked_envelopeClock _ _, envelopeClocked_envelopeClock _ _, envelopeClocked_envelopeClock _ _⟩
  · rw [if_neg h7] at h1 h2 h4 ⊢
    exact ⟨Option.some.inj h1, Option.some.inj h2, Option.some.inj h4⟩

/-- In a CYCLE an envelope stays or is clocked, from any state. -/
theorem cycle_envelope_cases {s t : State} {c : Channel} {e e' : Envelope} (h : exec .cycle s = .next t)
    (he : (armed s c).envelope = some e) (he' : (armed t c).envelope = some e') :
    e' = e ∨ e' = envelopeClock (nrx2 s.regs c) e := by
  rcases cycle_armed h c with hsame | ⟨hf, hk, _⟩
  · rw [hsame, he] at he'
    exact .inl (Option.some.inj he').symm
  · obtain rfl := Host.Outcome.next.inj ((execCycle_inRange hf hk).symm.trans h)
    rw [cycle_envelope hf hk, he] at he'
    split at he'
    · exact .inr (Option.some.inj he').symm
    · exact .inl (Option.some.inj he').symm

/-- A frozen envelope stays as loud as it is, and frozen, but for a trigger (R206). -/
theorem envelope_frozen {i : Instr} {s t : State} {c : Channel} {e e' : Envelope} (h : exec i s = .next t)
    (he : (armed s c).envelope = some e) (he' : (armed t c).envelope = some e') (hfrozen : e.envActive = false)
    (hi : ¬ IsTrigger c i) : e'.vol = e.vol ∧ e'.envActive = false := by
  rcases exec_armed_cases i c with rfl | htrigger | hkeeps
  · rcases cycle_envelope_cases h he he' with rfl | rfl
    · exact ⟨rfl, hfrozen⟩
    · exact envelopeClock_frozen _ hfrozen
  · exact absurd htrigger hi
  · rw [hkeeps s t h, he] at he'
    obtain rfl := Option.some.inj he'
    exact ⟨rfl, hfrozen⟩

/-- A clock that moves the volume to the end of its direction freezes the envelope (R206). -/
theorem envelopeClock_saturates {r : Byte} {e : Envelope} (hmoved : (envelopeClock r e).vol ≠ e.vol)
    (hend : (envelopeClock r e).vol = if r.getLsbD 3 = true then 15 else 0) :
    (envelopeClock r e).envActive = false := by
  rcases envelopeClock_cases r e with ⟨_, h⟩ | ⟨_, _, h⟩ | ⟨_, _, _, h⟩ | ⟨_, _, _, h⟩ <;> rw [h] at hmoved hend ⊢
  · exact absurd rfl hmoved
  · exact absurd rfl hmoved
  · exact absurd rfl hmoved
  · exact if_pos hend

theorem envelope_saturates {s t : State} {c : Channel} {e e' : Envelope} (h : exec .cycle s = .next t)
    (he : (armed s c).envelope = some e) (he' : (armed t c).envelope = some e') (hmoved : e'.vol ≠ e.vol)
    (hend : e'.vol = if (nrx2 s.regs c).getLsbD 3 = true then 15 else 0) : e'.envActive = false := by
  rcases cycle_envelope_cases h he he' with rfl | rfl
  · exact absurd rfl hmoved
  · exact envelopeClock_saturates hmoved hend

/-- Settles O49: `envelope_frozen` and `envelope_saturates` for each channel with an envelope. -/
theorem envelopeFrozenUntilTrigger : Obligations.EnvelopeFrozenUntilTrigger := by
  unfold Obligations.EnvelopeFrozenUntilTrigger
  exact ⟨fun i s t h => ⟨envelope_frozen (c := .ch1) h rfl rfl, envelope_frozen (c := .ch2) h rfl rfl,
      envelope_frozen (c := .ch4) h rfl rfl⟩,
    fun s t h => ⟨envelope_saturates (c := .ch1) h rfl rfl, envelope_saturates (c := .ch2) h rfl rfl,
      envelope_saturates (c := .ch4) h rfl rfl⟩⟩

/-! ### The enabled flag -/

/-- In a CYCLE the flag changes only if the length, enabled and at 1, is clocked by an even step (R203, R218). -/
theorem cycle_enabled_changes {s t : State} {c : Channel} (h : exec .cycle s = .next t)
    (hne : (chanOf t c).enabled ≠ (chanOf s c).enabled) :
    seqExpires s = true ∧ s.ctl.seqStep % 2 = 0 ∧ (nrx4 s.regs c).getLsbD 6 = true ∧ (chanOf s c).length = 1 ∧
      (chanOf t c).length = 0 ∧ (chanOf t c).enabled = false := by
  rcases cycle_armed h c with hsame | ⟨hf, hk, _⟩
  · rw [← armed_enabled, ← armed_enabled, hsame] at hne
    exact absurd rfl hne
  · obtain rfl := Host.Outcome.next.inj ((execCycle_inRange hf hk).symm.trans h)
    obtain ⟨hlength, henabled⟩ := cycle_length_enabled hf hk c
    by_cases hexpires : seqExpires s = true ∧ s.ctl.seqStep % 2 = 0 ∧ (nrx4 s.regs c).getLsbD 6 = true ∧
        (chanOf s c).length = 1
    · obtain ⟨hx, heven, hen, hone⟩ := hexpires
      rw [if_pos ⟨hx, heven, hen, hone⟩] at henabled
      rw [if_pos ⟨hx, heven, hen, by omega⟩, hone] at hlength
      exact ⟨hx, heven, hen, hone, hlength, henabled⟩
    · rw [if_neg hexpires] at henabled
      exact absurd henabled hne

/-- Settles O48: every other instruction leaves what triggers and ticks write. -/
theorem enabledChangesOnlyByTriggerOrExpiry : Obligations.EnabledChangesOnlyByTriggerOrExpiry := by
  unfold Obligations.EnabledChangesOnlyByTriggerOrExpiry
  refine ⟨fun i s t c h hne => ?_, fun s c => ⟨isEnabled_of_dac_off, isEnabled_of_enabled⟩⟩
  rcases exec_armed_cases i c with rfl | htrigger | hkeeps
  · exact .inr ⟨rfl, cycle_enabled_changes h hne⟩
  · exact .inl htrigger
  · rw [← armed_enabled, ← armed_enabled, hkeeps s t h] at hne
    exact absurd rfl hne

/-! ### The pulse timers -/

/-- The sequencer's part leaves the timers, the amplitudes, the phases and the duty registers (R214). -/
theorem sequencerPhase_pulse {s : State} (hf : s.fault = none) (hk : s.ctl.seqStep ≤ 7) :
    (∀ c, (chanOf (sequencerPhase s) c).timer = (chanOf s c).timer ∧
      (chanOf (sequencerPhase s) c).amp = (chanOf s c).amp) ∧
    (sequencerPhase s).ch1.phase = s.ch1.phase ∧ (sequencerPhase s).ch2.phase = s.ch2.phase := by
  refine ⟨fun c => ?_, ?_⟩
  · rw [sequencerPhase_chanOf hf hk]
    split
    · exact ⟨lengthClock_timer _ _, lengthClock_amp _ _⟩
    · exact ⟨rfl, rfl⟩
  · rw [sequencerPhase_spec hf hk]
    exact ⟨rfl, rfl⟩

/-- The sequencer's part writes no register but NR13 and NR14. -/
theorem sequencerPhase_regGet {s : State} (hf : s.fault = none) (hk : s.ctl.seqStep ≤ 7) {r : Reg} (h13 : r ≠ .nr13)
    (h14 : r ≠ .nr14) : regGet (sequencerPhase s).regs r = regGet s.regs r := by
  rw [sequencerPhase_regs_frame hf hk]
  cases r with
  | nr13 => exact absurd rfl h13
  | nr14 => exact absurd rfl h14
  | _ => rfl

/-- The bit of `DUTY_TABLE[d]` at a phase, `d` being bits 7-6 of NRx1 (R273). -/
theorem dutyBit_dutySelect (c : Config) (nrx1 : Byte) (p : Nat) :
    dutyBit c (dutySelect nrx1) p =
      (if nrx1.toNat / 64 = 0 then c.duty0 else if nrx1.toNat / 64 = 1 then c.duty1
        else if nrx1.toNat / 64 = 2 then c.duty2 else c.duty3).getLsbD p := by
  have hselect : (dutySelect nrx1).toNat = nrx1.toNat / 64 := by
    have hfield := field_toNat nrx1 6 2
    have := nrx1.isLt
    unfold dutySelect
    omega
  have hlt : nrx1.toNat / 64 < 4 := hselect ▸ (dutySelect nrx1).isLt
  unfold dutyBit dutyPattern
  rw [hselect]
  interval_cases nrx1.toNat / 64 <;> rfl

theorem pulseAmp_eq (c : Config) (nrx1 : Byte) (p vol : Nat) :
    pulseAmp c nrx1 p vol =
      if (if nrx1.toNat / 64 = 0 then c.duty0 else if nrx1.toNat / 64 = 1 then c.duty1
        else if nrx1.toNat / 64 = 2 then c.duty2 else c.duty3).getLsbD p = true then vol else 0 := by
  rw [pulseAmp, dutyBit_dutySelect]

/-- Settles O37: the channel steps see the registers and the volume the tick left. -/
theorem cyclePulseSteps : Obligations.CyclePulseSteps := by
  unfold Obligations.CyclePulseSteps
  refine ⟨⟨rfl, rfl, rfl, rfl⟩, fun s hf hk => ⟨_, execCycle_inRange hf hk, ?_⟩⟩
  obtain ⟨hchan, hphase1, hphase2⟩ := sequencerPhase_pulse hf hk
  obtain ⟨hconfig, _, _⟩ := sequencerPhase_inputs hf hk
  constructor
  · obtain ⟨htimer, hamp⟩ := hchan .ch1
    have hduty : (sequencerPhase s).regs.nr11 = s.regs.nr11 :=
      sequencerPhase_regGet hf hk (r := .nr11) (by decide) (by decide)
    simp only [chanOf] at htimer hamp
    simp only [downsample_ch1, downsample_regs, stepAll_spec, stepped1_vol, ← htimer]
    split
    next ht =>
      rw [stepped1_counting ht]
      exact ⟨rfl, hphase1, hamp⟩
    next ht =>
      rw [stepped1_expiring (Nat.not_lt.mp ht), hphase1, hconfig, hduty, pulseAmp_eq]
      exact ⟨congrArg pulseReload (frequency_eq _ _), rfl, rfl⟩
  · obtain ⟨htimer, hamp⟩ := hchan .ch2
    have hduty : (sequencerPhase s).regs.nr21 = s.regs.nr21 :=
      sequencerPhase_regGet hf hk (r := .nr21) (by decide) (by decide)
    have hlow : (sequencerPhase s).regs.nr23 = s.regs.nr23 :=
      sequencerPhase_regGet hf hk (r := .nr23) (by decide) (by decide)
    have hhigh : (sequencerPhase s).regs.nr24 = s.regs.nr24 :=
      sequencerPhase_regGet hf hk (r := .nr24) (by decide) (by decide)
    simp only [chanOf] at htimer hamp
    simp only [downsample_ch2, stepAll_spec, stepped2_vol, ← htimer]
    split
    next ht =>
      rw [stepped2_counting ht]
      exact ⟨rfl, hphase2, hamp⟩
    next ht =>
      rw [stepped2_expiring (Nat.not_lt.mp ht), hphase2, hconfig, hduty, pulseAmp_eq, freq2, hlow, hhigh, frequency_eq]
      exact ⟨rfl, rfl, rfl⟩

/-! ### No channel reads another

`s.only c` is the state in which everything a channel does not read is at reset. An operation keeps the channel
isolated if, run on that state, it leaves the same of the channel as run on the whole state; this passes through
composition and through every branch on what the channel reads. -/

/-- The registers with those of the other channels and of the controller at reset (R41 to R63). -/
def RegFile.only (f : RegFile) : Channel → RegFile
  | .ch1 => { RegFile.reset with nr10 := f.nr10, nr11 := f.nr11, nr12 := f.nr12, nr13 := f.nr13, nr14 := f.nr14 }
  | .ch2 => { RegFile.reset with nr20 := f.nr20, nr21 := f.nr21, nr22 := f.nr22, nr23 := f.nr23, nr24 := f.nr24 }
  | .ch3 => { RegFile.reset with nr30 := f.nr30, nr31 := f.nr31, nr32 := f.nr32, nr33 := f.nr33, nr34 := f.nr34 }
  | .ch4 => { RegFile.reset with nr40 := f.nr40, nr41 := f.nr41, nr42 := f.nr42, nr43 := f.nr43, nr44 := f.nr44 }

/-- The reset state with what every channel depends on: the configuration, the fault mark and the sequencer. -/
def State.shared (s : State) : State :=
  { State.resetWith s.config with
    fault := s.fault
    ctl := { (State.resetWith s.config).ctl with seqStep := s.ctl.seqStep, seqCount := s.ctl.seqCount } }

/-- What a channel depends on: the shared part, and its own state and registers (R209, R421). -/
def State.only (s : State) : Channel → State
  | .ch1 => { s.shared with regs := s.regs.only .ch1, ch1 := s.ch1 }
  | .ch2 => { s.shared with regs := s.regs.only .ch2, ch2 := s.ch2 }
  | .ch3 => { s.shared with regs := s.regs.only .ch3, ch3 := s.ch3 }
  | .ch4 => { s.shared with regs := s.regs.only .ch4, ch4 := s.ch4 }

/-- What the operation leaves of the channel depends on what the channel depends on. -/
def Isolated (c : Channel) (f : State → State) : Prop := ∀ s, (f (s.only c)).only c = (f s).only c

theorem State.only_only (s : State) (c : Channel) : (s.only c).only c = s.only c := by cases c <;> rfl

@[simp] theorem State.only_fault (s : State) (c : Channel) : (s.only c).fault = s.fault := by cases c <;> rfl

@[simp] theorem State.only_seqStep (s : State) (c : Channel) : (s.only c).ctl.seqStep = s.ctl.seqStep := by
  cases c <;> rfl

@[simp] theorem State.only_seqCount (s : State) (c : Channel) : (s.only c).ctl.seqCount = s.ctl.seqCount := by
  cases c <;> rfl

/-- An operation that writes nothing the channel depends on. -/
theorem Isolated.of_frame {c : Channel} {f : State → State} (h : ∀ s, (f s).only c = s.only c) :
    Isolated c f := fun s => by
  rw [h, h, State.only_only]

theorem Isolated.comp {c : Channel} {f g : State → State} (hg : Isolated c g) (hf : Isolated c f) :
    Isolated c (fun s => g (f s)) := fun s => by
  rw [← hg, hf, hg]

/-- A branch on what the channel depends on. -/
theorem Isolated.ite {c : Channel} {p : State → Prop} [DecidablePred p] {f g : State → State}
    (hp : ∀ s, p (s.only c) ↔ p s) (hf : Isolated c f) (hg : Isolated c g) :
    Isolated c (fun s => if p s then f s else g s) := by
  intro s
  by_cases h : p s
  · simpa only [hp, h, if_true] using hf s
  · simpa only [hp, h, if_false] using hg s

theorem isolated_id (c : Channel) : Isolated c (fun s => s) := .of_frame fun _ => rfl

theorem Isolated.unlessFaulted {c : Channel} {f : State → State} (hf : Isolated c f) : Isolated c (unlessFaulted f) :=
  .ite (fun s => by rw [State.only_fault]) (isolated_id c) hf

theorem Isolated.applyIf {c : Channel} {f : State → State} (runs : Bool) (hf : Isolated c f) :
    Isolated c (applyIf runs f) :=
  .ite (fun _ => Iff.rfl) hf (isolated_id c)

theorem Isolated.whenTriggerBit {c : Channel} {f : State → State} (d : Byte) (hf : Isolated c f) :
    Isolated c (whenTriggerBit d f) :=
  .ite (fun _ => Iff.rfl) hf (isolated_id c)

theorem isolated_giveAnswer (a : State → Answer) (c : Channel) : Isolated c (fun s => giveAnswer (a s) s) :=
  .of_frame fun _ => by cases c <;> rfl

theorem isolated_storeReg (r : Reg) (d : Byte) (c : Channel) : Isolated c (storeReg r d) := by
  intro s
  cases c <;> cases r <;> rfl

/-- The wave table is channel 3's, and whether an access to it is direct depends on nothing else (R341 to R344). -/
theorem isolated_readWave (k : Nat) (c : Channel) : Isolated c (readWave k) := by
  cases c with
  | ch3 => exact .ite (fun _ => Iff.rfl) (fun _ => rfl) (fun _ => rfl)
  | _ =>
    refine .of_frame fun s => ?_
    unfold readWave
    split <;> rfl

theorem isolated_writeWave (k : Nat) (d : Byte) (c : Channel) : Isolated c (writeWave k d) := by
  cases c with
  | ch3 =>
    intro s
    have hindex : waveWriteIndex k (s.only .ch3) = waveWriteIndex k s := rfl
    cases h : waveWriteIndex k s with
    | some j =>
      simp only [writeWave, hindex, h]
      rfl
    | none => simp only [writeWave, hindex, h, State.only_only]
  | _ =>
    refine .of_frame fun s => ?_
    rcases writeWave_cases k d s with ⟨j, _, h⟩ | ⟨_, h⟩ <;> rw [h]
    rfl

@[simp] theorem RegFile.only_nr10 (f : RegFile) : (f.only .ch1).nr10 = f.nr10 := rfl

/-- The sweep's calculation reads and writes channel 1's registers only (R304, R305). -/
theorem sweepUpdate_only (f : RegFile) (w : Sweep) :
    sweepUpdate (f.only .ch1) w = ((sweepUpdate f w).1, (sweepUpdate f w).2.only .ch1) := by
  unfold sweepUpdate
  rw [RegFile.only_nr10]
  split <;> rfl

theorem sweepClock_only (f : RegFile) (w : Sweep) :
    sweepClock (f.only .ch1) w = ((sweepClock f w).1, (sweepClock f w).2.only .ch1) := by
  simp only [sweepClock, RegFile.only_nr10, sweepUpdate_only]
  split
  · split <;> rfl
  · rfl

theorem isolated_sweepTick (c : Channel) : Isolated c sweepTick := by
  cases c with
  | ch1 =>
    intro s
    have hclock : sweepClock (s.only .ch1).regs (s.only .ch1).ch1.toSweep = _ := sweepClock_only s.regs s.ch1.toSweep
    simp only [sweepTick, hclock]
    rfl
  | _ =>
    refine .of_frame fun s => ?_
    simp only [State.only, State.shared, RegFile.only, sweepTick, sweepClock_nr20, sweepClock_nr21, sweepClock_nr22,
      sweepClock_nr23, sweepClock_nr24, sweepClock_nr30, sweepClock_nr31, sweepClock_nr32, sweepClock_nr33,
      sweepClock_nr34, sweepClock_nr40, sweepClock_nr41, sweepClock_nr42, sweepClock_nr43, sweepClock_nr44]

theorem isolated_subClocks (k : Nat) (c c' : Channel) : Isolated c (fun s => subClocks k s c') := by
  cases c' with
  | ch1 =>
    have hlength : Isolated c lengthTick1 := fun _ => by cases c <;> rfl
    have henvelope : Isolated c envelopeTick1 := fun _ => by cases c <;> rfl
    exact (henvelope.applyIf _).comp (((isolated_sweepTick c).applyIf _).comp (hlength.applyIf _))
  | ch2 =>
    have hlength : Isolated c lengthTick2 := fun _ => by cases c <;> rfl
    have henvelope : Isolated c envelopeTick2 := fun _ => by cases c <;> rfl
    exact (henvelope.applyIf _).comp (hlength.applyIf _)
  | ch3 =>
    have hlength : Isolated c lengthTick3 := fun _ => by cases c <;> rfl
    exact hlength.applyIf _
  | ch4 =>
    have hlength : Isolated c lengthTick4 := fun _ => by cases c <;> rfl
    have henvelope : Isolated c envelopeTick4 := fun _ => by cases c <;> rfl
    exact (henvelope.applyIf _).comp (hlength.applyIf _)

theorem isolated_tickChannel (k : Nat) (c c' : Channel) : Isolated c (tickChannel c' k) :=
  .unlessFaulted (.ite (fun _ => Iff.rfl) (fun _ => by cases c <;> rfl) (isolated_subClocks k c c'))

theorem isolated_tickAll (k : Nat) (c : Channel) : Isolated c (tickAll k) :=
  (isolated_tickChannel k c .ch4).comp ((isolated_tickChannel k c .ch3).comp
    ((isolated_tickChannel k c .ch2).comp (isolated_tickChannel k c .ch1)))

theorem isolated_sequencerPhase (c : Channel) : Isolated c sequencerPhase := by
  have hadvance : Isolated c advanceSequencer := fun _ => by cases c <;> rfl
  have hcount : Isolated c countSequencer := fun _ => by cases c <;> rfl
  refine .ite (fun s => by rw [State.only_seqCount]) (fun s => ?_) hcount
  rw [State.only_seqStep]
  exact hadvance.unlessFaulted.comp ((isolated_tickAll s.ctl.seqStep c).comp hcount) s

theorem downsampled_seqCount (s : State) : (downsampled s).seqCount = s.ctl.seqCount := by
  unfold downsampled
  split
  · exact emitPair_seqCount _ _ _ _
  · rfl

theorem isolated_masterCycle (c : Channel) : Isolated c masterCycle := by
  have hstep : Isolated c stepAll := fun _ => by cases c <;> rfl
  have hmix : Isolated c downsample := .of_frame fun s => by
    cases c <;> simp only [State.only, State.shared, downsample, downsampled_seqStep, downsampled_seqCount]
  exact (hmix.comp hstep).unlessFaulted.comp (isolated_sequencerPhase c)

/-- Every effect of an instruction keeps every channel isolated. -/
theorem Effect.isolated {f : State → State} (hf : Effect f) (c : Channel) : Isolated c f := by
  induction hf with
  | idle => exact isolated_id c
  | answer a => exact isolated_giveAnswer a c
  | store r d => exact isolated_storeReg r d c
  | loadLength1 | loadLength2 | loadLength3 | loadLength4 | trigger1 | trigger2 | trigger3 | trigger4 =>
    exact fun _ => by cases c <;> rfl
  | readWave k => exact isolated_readWave k.toNat c
  | writeWave k d => exact isolated_writeWave k.toNat d c
  | cycle => exact isolated_masterCycle c
  | whenTriggerBit d _ ih => exact ih.whenTriggerBit d
  | comp _ _ ihg ihf => exact ihg.comp ihf

/-- From states that agree on what a channel depends on, an instruction leads to states that do. -/
theorem exec_only {i : Instr} {s s' t t' : State} {c : Channel} (h : exec i s = .next t) (h' : exec i s' = .next t')
    (heq : s.only c = s'.only c) : t.only c = t'.only c := by
  obtain ⟨f, hf, hexec⟩ := exec_eq_stimulus_effect i
  have hisolated := (hf.isolated c).unlessFaulted
  rw [hexec, stimulus_next] at h h'
  rw [h, h', ← hisolated s, heq, hisolated s']

theorem State.shared_congr {s s' : State} (hconfig : s.config = s'.config) (hfault : s.fault = s'.fault)
    (hstep : s.ctl.seqStep = s'.ctl.seqStep) (hcount : s.ctl.seqCount = s'.ctl.seqCount) : s.shared = s'.shared := by
  simp only [State.shared, hconfig, hfault, hstep, hcount]

/-- Settles O59: each channel's hypotheses say that the two states agree on what the channel depends on. -/
theorem channelsDoNotReadEachOther : Obligations.ChannelsDoNotReadEachOther := by
  unfold Obligations.ChannelsDoNotReadEachOther
  intro i s s' t t' h h' hconfig hfault hstep hcount
  have hshared := State.shared_congr hconfig hfault hstep hcount
  refine ⟨fun hch hregs => ?_, fun hch hregs => ?_, fun hch hregs => ?_, fun hch hregs => ?_⟩
  all_goals simp only [List.forall_mem_cons, regGet] at hregs
  · have honly : s.only .ch1 = s'.only .ch1 := by simp only [State.only, RegFile.only, hshared, hch, hregs]
    exact (congrArg State.ch1 (exec_only h h' honly) :)
  · have honly : s.only .ch2 = s'.only .ch2 := by simp only [State.only, RegFile.only, hshared, hch, hregs]
    exact (congrArg State.ch2 (exec_only h h' honly) :)
  · have honly : s.only .ch3 = s'.only .ch3 := by simp only [State.only, RegFile.only, hshared, hch, hregs]
    exact (congrArg State.ch3 (exec_only h h' honly) :)
  · have honly : s.only .ch4 = s'.only .ch4 := by simp only [State.only, RegFile.only, hshared, hch, hregs]
    exact (congrArg State.ch4 (exec_only h h' honly) :)

end Sys2Proof.Machine
end

section
/-! Lemmas and proofs for the statements of 42_pulse.md: the READs of the pulse registers (O13, O14), their WRITEs
without a side effect (O20), and the first phase advance after a trigger (O53). -/

namespace Sys2Proof.Machine
open Sys2Proof

/-! ### READs and plain WRITEs -/

/-- A READ of a register answers the stored byte under its mask and changes nothing else (R143). -/
theorem answerReg_outcome {s : State} (hf : s.fault = none) {r : Reg} {b : Byte}
    (hb : regGet s.regs r ||| readMask r = b) :
    stimulus (answerReg r) s = .next { s with answers := s.answers ++ [.byte b] } := by
  rw [stimulus_none hf, answerReg, hb, giveAnswer]

/-- Settles O13: NR12 has no masked bit, NR13 only masked ones. -/
theorem channel1RegisterReads : Obligations.Channel1RegisterReads := by
  unfold Obligations.Channel1RegisterReads
  intro s hf
  exact ⟨answerReg_outcome hf (r := .nr10) rfl, answerReg_outcome hf (r := .nr11) rfl,
    answerReg_outcome hf (r := .nr12) BitVec.or_zero, answerReg_outcome hf (r := .nr13) BitVec.or_allOnes,
    answerReg_outcome hf (r := .nr14) rfl⟩

/-- Settles O14: NR22 has no masked bit, NR20 and NR23 only masked ones. -/
theorem channel2RegisterReads : Obligations.Channel2RegisterReads := by
  unfold Obligations.Channel2RegisterReads
  intro s hf
  exact ⟨answerReg_outcome hf (r := .nr20) BitVec.or_allOnes, answerReg_outcome hf (r := .nr21) rfl,
    answerReg_outcome hf (r := .nr22) BitVec.or_zero, answerReg_outcome hf (r := .nr23) BitVec.or_allOnes,
    answerReg_outcome hf (r := .nr24) rfl⟩

/-- A channel whose DAC is off is not enabled and puts out 0 (R211, R212). -/
theorem silent_of_dac_off {s : State} {c : Channel} (h : dac s.regs c = false) :
    isEnabled s c = false ∧ outputAmplitude s c = 0 :=
  ⟨isEnabled_of_dac_off h, outputAmplitude_of_not_isEnabled (isEnabled_of_dac_off h)⟩

/-- Settles O20: each WRITE is a store of its register, and the DAC predicate is computed from the byte stored. -/
theorem pulsePlainWrites : Obligations.PulsePlainWrites := by
  unfold Obligations.PulsePlainWrites
  intro s d hf
  refine ⟨stimulus_none hf, stimulus_none hf, stimulus_none hf, stimulus_none hf, stimulus_none hf, stimulus_none hf,
    fun hd => ?_⟩
  have hoff : envelopeDac d = false := envelopeDac_eq_false hd
  have hch1 := silent_of_dac_off (s := { s with regs := { s.regs with nr12 := d } }) (c := .ch1) hoff
  have hch2 := silent_of_dac_off (s := { s with regs := { s.regs with nr22 := d } }) (c := .ch2) hoff
  exact ⟨hch1.1, hch1.2, hch2.1, hch2.2⟩

/-! ### From a trigger to the first expiry of the frequency timer -/

/-- Where the channel's generator stands: the phase, the position, or the LFSR (R29, R32, R33). -/
def generatorPoint (s : State) : Channel → Nat
  | .ch1 => s.ch1.phase
  | .ch2 => s.ch2.phase
  | .ch3 => s.ch3.pos
  | .ch4 => s.ch4.lfsr.toNat

/-- The channel's timer has `left` CYCLEs to go, the generator standing at `point` with the amplitude `amp`. -/
structure CountingDown (c : Channel) (left point amp : Nat) (s : State) : Prop where
  correct : s.fault = none
  seqStep : s.ctl.seqStep ≤ 7
  timer : (chanOf s c).timer = left
  point : generatorPoint s c = point
  amp : (chanOf s c).amp = amp

/-- The sequencer's part moves no generator (R214). -/
theorem sequencerPhase_generatorPoint {s : State} (hf : s.fault = none) (hk : s.ctl.seqStep ≤ 7) (c : Channel) :
    generatorPoint (sequencerPhase s) c = generatorPoint s c := by
  rw [sequencerPhase_spec hf hk]
  cases c <;> rfl

/-- While the timer is above 1 a channel step only counts it down (R207). -/
theorem stepAll_counting {s : State} {c : Channel} (h : 1 < (chanOf s c).timer) :
    (chanOf (stepAll s) c).timer = (chanOf s c).timer - 1 ∧ generatorPoint (stepAll s) c = generatorPoint s c ∧
      (chanOf (stepAll s) c).amp = (chanOf s c).amp := by
  rw [stepAll_spec]
  cases c with
  | ch1 => simp only [chanOf, generatorPoint, stepped1_counting h, and_self]
  | ch2 => simp only [chanOf, generatorPoint, stepped2_counting h, and_self]
  | ch3 => simp only [chanOf, generatorPoint, stepped3_counting h, and_self]
  | ch4 => simp only [chanOf, generatorPoint, stepped4_counting h, and_self]

/-- The downsampler writes no channel (R420). -/
theorem downsample_channel (s : State) (c : Channel) :
    chanOf (downsample s) c = chanOf s c ∧ generatorPoint (downsample s) c = generatorPoint s c := by
  cases c <;> exact ⟨rfl, rfl⟩

/-- A CYCLE that does not use up the timer takes one off it. -/
theorem CountingDown.cycle {c : Channel} {left point amp : Nat} {s : State} (h : CountingDown c left point amp s)
    (hleft : 1 < left) : ∃ t, exec .cycle s = .next t ∧ CountingDown c (left - 1) point amp t := by
  obtain ⟨hf, hk, rfl, rfl, rfl⟩ := h
  have hcycle := execCycle_inRange hf hk
  obtain ⟨hf', hk', _⟩ := Awaiting.cycle ⟨hf, hk, rfl⟩ hcycle
  obtain ⟨htimer, hamp⟩ := (sequencerPhase_pulse hf hk).1 c
  rw [← htimer] at hleft
  obtain ⟨hcount, hpoint, hhold⟩ := stepAll_counting hleft
  obtain ⟨hchan, hgen⟩ := downsample_channel (stepAll (sequencerPhase s)) c
  exact ⟨_, hcycle, {
    correct := hf'
    seqStep := hk'
    timer := by rw [hchan, hcount, htimer]
    point := by rw [hgen, hpoint, sequencerPhase_generatorPoint hf hk]
    amp := by rw [hchan, hhold, hamp] }⟩

/-- Fewer CYCLEs than the timer has to go leave the generator where it stands. -/
theorem CountingDown.cycles {c : Channel} {left point amp : Nat} (n : Nat) {s : State}
    (h : CountingDown c left point amp s) (hn : n < left) :
    ∃ t, runAll (List.replicate n .cycle) s = .next t ∧ CountingDown c (left - n) point amp t := by
  induction n generalizing left s with
  | zero => exact ⟨s, rfl, h⟩
  | succ n ih =>
    obtain ⟨u, hu, hcount⟩ := h.cycle (by omega)
    obtain ⟨t, ht, hrest⟩ := ih hcount (by omega)
    rw [Nat.sub_sub, Nat.add_comm 1 n] at hrest
    exact ⟨t, (runAll_cons hu).trans ht, hrest⟩

/-- The generator stands still until the timer is used up; what the next CYCLE makes of a timer at 1 holds exactly after
as many CYCLEs as the timer had to go. -/
theorem CountingDown.runAll_upToExpiry {c : Channel} {left point amp : Nat} {s : State} {Q : State → Prop}
    (h : CountingDown c left point amp s) (hpos : 0 < left)
    (hexpiry : ∀ u, CountingDown c 1 point amp u → ∃ t, exec .cycle u = .next t ∧ Q t) {n : Nat} (hn : n ≤ left) :
    ∃ t, runAll (List.replicate n .cycle) s = .next t ∧
      if n = left then Q t else generatorPoint t c = point ∧ (chanOf t c).amp = amp := by
  split
  next hlast =>
    obtain ⟨m, rfl⟩ : ∃ m, n = m + 1 := ⟨n - 1, by omega⟩
    obtain ⟨u, hrun, hu⟩ := h.cycles m (by omega)
    rw [show left - m = 1 by omega] at hu
    obtain ⟨t, ht, hq⟩ := hexpiry u hu
    exact ⟨t, by rw [List.replicate_succ', runAll_append hrun, runAll_cons ht, runAll_nil], hq⟩
  next hbefore =>
    obtain ⟨t, hrun, ht⟩ := h.cycles n (by omega)
    exact ⟨t, hrun, ht.point, ht.amp⟩

/-- At an expiry a pulse channel at phase 0 advances to phase 1 (R272). -/
theorem CountingDown.firstAdvance {c : Channel} {amp : Nat} {s : State} (h : CountingDown c 1 0 amp s)
    (hc : c = .ch1 ∨ c = .ch2) : ∃ t, exec .cycle s = .next t ∧ generatorPoint t c = 1 := by
  obtain ⟨hf, hk, htimer, hpoint, _⟩ := h
  obtain ⟨t, he, hch1, hch2⟩ := cyclePulseSteps.2 s hf hk
  refine ⟨t, he, ?_⟩
  rcases hc with rfl | rfl
  · obtain ⟨_, hphase, _⟩ := (if_neg (Nat.not_lt.mpr htimer.le)).mp hch1
    exact hphase.trans (congrArg nextPhase hpoint)
  · obtain ⟨_, hphase, _⟩ := (if_neg (Nat.not_lt.mpr htimer.le)).mp hch2
    exact hphase.trans (congrArg nextPhase hpoint)

/-- The reload is at least 4, as a frequency has 11 bits (R208, R271). -/
theorem pulseReload_frequency_pos (lo hi : Byte) : 0 < (2048 - (hi.toNat % 8 * 256 + lo.toNat)) * 4 := by
  have hle := frequency_le lo hi
  rw [frequency_eq] at hle
  omega

/-- A trigger of channel 1 leaves the timer at the reload, and the phase and the amplitude at 0 (R215, R271, R274). -/
theorem countingDown_of_trigger1 {s : State} (hf : s.fault = none) (hk : s.ctl.seqStep ≤ 7) {d : Byte}
    (hd : d.getLsbD 7 = true) : ∃ u, exec (.wrNr14 d) s = .next u ∧
      CountingDown .ch1 ((2048 - (d.toNat % 8 * 256 + s.regs.nr13.toNat)) * 4) 0 0 u := by
  have hwrite := channel1TriggerWrite s d hf
  rw [hd, if_neg (by decide)] at hwrite
  exact ⟨_, hwrite, hf, hk, rfl, rfl, rfl⟩

/-- The same for channel 2. -/
theorem countingDown_of_trigger2 {s : State} (hf : s.fault = none) (hk : s.ctl.seqStep ≤ 7) {d : Byte}
    (hd : d.getLsbD 7 = true) : ∃ u, exec (.wrNr24 d) s = .next u ∧
      CountingDown .ch2 ((2048 - (d.toNat % 8 * 256 + s.regs.nr23.toNat)) * 4) 0 0 u := by
  have hwrite := channel2TriggerWrite s d hf
  rw [hd, if_neg (by decide)] at hwrite
  exact ⟨_, hwrite, hf, hk, rfl, rfl, rfl⟩

/-- Settles O53: a trigger starts the countdown at the reload, and the CYCLE that ends it advances the phase. -/
theorem pulseFirstAdvanceAfterTrigger : Obligations.PulseFirstAdvanceAfterTrigger := by
  unfold Obligations.PulseFirstAdvanceAfterTrigger
  intro s d n hf hk hd
  refine ⟨fun hn => ?_, fun hn => ?_⟩
  · obtain ⟨u, hwrite, hu⟩ := countingDown_of_trigger1 hf hk hd
    rw [runAll_cons hwrite]
    exact hu.runAll_upToExpiry (pulseReload_frequency_pos _ _) (fun _ hv => hv.firstAdvance (.inl rfl)) hn
  · obtain ⟨u, hwrite, hu⟩ := countingDown_of_trigger2 hf hk hd
    rw [runAll_cons hwrite]
    exact hu.runAll_upToExpiry (pulseReload_frequency_pos _ _) (fun _ hv => hv.firstAdvance (.inr rfl)) hn

end Sys2Proof.Machine
end

section
/-! Lemmas and proofs for the statements of 43_sweep.md: what a CYCLE makes of the sweep and the frequency registers
(O35), how long overflow lasts (O50), and what writes the shadow frequency (O51). -/

namespace Sys2Proof.Machine
open Sys2Proof

/-! ### The sweep clock -/

/-- A commit of a frequency of 11 bits stores its low byte and its three high bits (R305). -/
theorem commitRegs_eq {n : Nat} (hn : n ≤ 2047) (f : RegFile) : commitRegs n f =
    { f with nr13 := BitVec.ofNat 8 (n % 256), nr14 := (f.nr14 &&& 0xF8) ||| BitVec.ofNat 8 (n / 256) } := by
  have hlow : BitVec.ofNat 8 n = BitVec.ofNat 8 (n % 256) := BitVec.eq_of_toNat_eq (by simp)
  have hhigh : n / 256 % 8 = n / 256 := Nat.mod_eq_of_lt (by omega)
  rw [commitRegs, hlow, hhigh]

/-- Storing three bits under bits 7-3 of a byte leaves those three in its low bits. -/
theorem and_F8_or_low (b : Byte) {m : Nat} (hm : m < 8) : ((b &&& 0xF8) ||| BitVec.ofNat 8 m).toNat % 8 = m := by
  have hb : (b.toNat &&& 0xF8) % 2 ^ 3 = 0 := by rw [Nat.and_mod_two_pow]; exact Nat.and_zero _
  have hmod : m % 2 ^ 8 % 2 ^ 3 = m := by omega
  calc ((b &&& 0xF8) ||| BitVec.ofNat 8 m).toNat % 2 ^ 3
      = ((b.toNat &&& 0xF8) ||| m % 2 ^ 8) % 2 ^ 3 := by simp
    _ = m := by rw [Nat.or_mod_two_pow, hb, hmod, Nat.zero_or]

/-- The frequency registers hold the frequency committed to them (R208, R305). -/
theorem freq1_commitRegs {n : Nat} (hn : n ≤ 2047) (f : RegFile) : freq1 (commitRegs n f) = n := by
  rw [freq1, frequency_eq, commitRegs_eq hn]
  simp only [and_F8_or_low f.nr14 (show n / 256 < 8 by omega), BitVec.toNat_ofNat]
  omega

/-- The sweep clock does what R304 and R305 say, at a timer and a shadow of any size. -/
theorem sweepClocked_sweepClock (f : RegFile) (w : Sweep) :
    SweepClocked f (sweepClock f w).2 w (sweepClock f w).1 := by
  have hruns : w.sweepEnabled = true → 0 < sweepPeriod f.nr10 → ¬ (w.sweepEnabled = false ∨ sweepPeriod f.nr10 = 0) :=
    fun hon hp => not_or.mpr ⟨by simp [hon], hp.ne'⟩
  simp only [SweepClocked, ← sweepTarget_eq, ← sweepPeriod_eq, ← sweepShift_eq]
  rcases sweepClock_cases f w with ⟨ht, h⟩ | ⟨ht, hoff, h⟩ | ⟨ht, hon, hp, hn, hs, h⟩ | ⟨ht, hon, hp, hno, h⟩ <;> rw [h]
  · rw [if_pos ht]
    exact ⟨rfl, rfl⟩
  · rw [if_neg (by omega), if_pos hoff]
    exact ⟨rfl, rfl⟩
  · rw [if_neg (by omega), if_neg (hruns hon hp), if_pos ⟨hn, hs⟩]
    simp [sweepCheck_overflow, commitRegs_eq hn, sweepReload]
  · rw [if_neg (by omega), if_neg (hruns hon hp), if_neg hno]
    simp [sweepCheck_overflow, sweepReload]

/-- A sweep clock never clears the overflow flag (R301). -/
theorem sweepClock_overflow {f : RegFile} {w : Sweep} (h : w.overflow = true) : (sweepClock f w).1.overflow = true := by
  rcases sweepClock_cases f w with ⟨_, hw⟩ | ⟨_, _, hw⟩ | ⟨_, _, _, _, _, hw⟩ | ⟨_, _, _, _, hw⟩ <;> rw [hw]
  · exact h
  · exact h
  · simp [sweepCheck_overflow, h]
  · simp [sweepCheck_overflow, h]

/-- A sweep clock that changes the shadow commits the new one, of 11 bits, to the frequency registers (R305). -/
theorem sweepClock_commits {f : RegFile} {w : Sweep} (h : (sweepClock f w).1.shadow ≠ w.shadow) :
    (sweepClock f w).1.shadow ≤ 2047 ∧ freq1 (sweepClock f w).2 = (sweepClock f w).1.shadow := by
  rcases sweepClock_cases f w with ⟨_, hw⟩ | ⟨_, _, hw⟩ | ⟨_, _, _, hn, _, hw⟩ | ⟨_, _, _, _, hw⟩ <;> rw [hw] at h ⊢
  · exact absurd rfl h
  · exact absurd rfl h
  · rw [sweepCheck_shadow]
    exact ⟨hn, freq1_commitRegs hn f⟩
  · exact absurd (sweepCheck_shadow _ _) h

/-! ### The sweep in a CYCLE and in every instruction -/

/-- A tick of step 2 or 6 clocks the sweep, and no other part of a CYCLE writes it or a register (R304, R305). -/
theorem cycle_sweep {s : State} (hf : s.fault = none) (hk : s.ctl.seqStep ≤ 7) :
    let t := downsample (stepAll (sequencerPhase s))
    (t.ch1.toSweep, t.regs) =
      if seqExpires s = true ∧ (s.ctl.seqStep = 2 ∨ s.ctl.seqStep = 6) then sweepClock s.regs s.ch1.toSweep
      else (s.ch1.toSweep, s.regs) := by
  simp only [downsample_ch1, downsample_regs, stepAll_spec, stepped1_toSweep, sequencerPhase_spec hf hk]
  split <;> rfl

/-- Settles O35: `cycle_sweep`, whose clock is R304's. -/
theorem cycleSweepClock : Obligations.CycleSweepClock := by
  unfold Obligations.CycleSweepClock
  intro s hf hk _
  refine ⟨_, execCycle_inRange hf hk, ?_⟩
  have hsweep := cycle_sweep hf hk
  split at hsweep
  next hclock =>
    obtain ⟨hw, hregs⟩ := Prod.mk.inj hsweep
    rw [if_pos hclock, hw, hregs]
    exact sweepClocked_sweepClock _ _
  next hclock =>
    rw [if_neg hclock]
    exact Prod.mk.inj hsweep

/-- An instruction triggers channel 1, or leaves its sweep, or is a CYCLE whose tick clocks it (R300, R304). -/
theorem exec_sweep_cases {i : Instr} {s t : State} (h : exec i s = .next t) :
    IsTrigger .ch1 i ∨ t.ch1.toSweep = s.ch1.toSweep ∨
    (i = .cycle ∧ seqExpires s = true ∧ (s.ctl.seqStep = 2 ∨ s.ctl.seqStep = 6) ∧
      (t.ch1.toSweep, t.regs) = sweepClock s.regs s.ch1.toSweep) := by
  have hkept : armed t .ch1 = armed s .ch1 → t.ch1.toSweep = s.ch1.toSweep := fun hsame =>
    Option.some.inj (congrArg Armed.sweep hsame)
  rcases exec_armed_cases i .ch1 with rfl | htrigger | hkeeps
  · rcases cycle_armed h .ch1 with hsame | ⟨hf, hk, _⟩
    · exact .inr (.inl (hkept hsame))
    · obtain rfl := Host.Outcome.next.inj ((execCycle_inRange hf hk).symm.trans h)
      have hsweep := cycle_sweep hf hk
      split at hsweep
      next hclock => exact .inr (.inr ⟨rfl, hclock.1, hclock.2, hsweep⟩)
      next => exact .inr (.inl (Prod.mk.inj hsweep).1)
  · exact .inl htrigger
  · exact .inr (.inl (hkept (hkeeps s t h)))

/-! ### The overflow flag and the shadow frequency -/

theorem isEnabled_ch1_of_overflow {s : State} (h : s.ch1.overflow = true) : isEnabled s .ch1 = false := by
  simp [isEnabled, h]

/-- Only a trigger of channel 1 clears the overflow flag (R301, R306). -/
theorem overflow_of_not_trigger {i : Instr} {s t : State} (h : exec i s = .next t) (hset : s.ch1.overflow = true)
    (hi : ¬ IsTrigger .ch1 i) : t.ch1.overflow = true := by
  rcases exec_sweep_cases h with htrigger | hkept | ⟨_, _, _, hclock⟩
  · exact absurd htrigger hi
  · exact (congrArg Sweep.overflow hkept).trans hset
  · exact (congrArg (·.1.overflow) hclock).trans (sweepClock_overflow hset)

/-- Settles O50: the flag silences the channel and lasts, and the enabled flag falls only with the length
(`cycle_enabled_changes`). -/
theorem overflowSilencesUntilTrigger : Obligations.OverflowSilencesUntilTrigger := by
  unfold Obligations.OverflowSilencesUntilTrigger
  refine ⟨fun s h => ?_, fun _ _ _ h => overflow_of_not_trigger h, fun s t h _ _ => ?_⟩
  · have hoff := isEnabled_ch1_of_overflow h
    exact ⟨hoff, outputAmplitude_of_not_isEnabled hoff⟩
  · by_cases hsame : t.ch1.enabled = s.ch1.enabled
    · exact .inl hsame
    · obtain ⟨_, _, hen, hlength, _⟩ := cycle_enabled_changes (c := .ch1) h hsame
      exact .inr ⟨hlength, hen⟩

/-- Settles O51: of what writes the sweep, a trigger and a committing clock change the shadow. -/
theorem shadowChangesOnlyByTriggerOrCommit : Obligations.ShadowChangesOnlyByTriggerOrCommit := by
  unfold Obligations.ShadowChangesOnlyByTriggerOrCommit
  intro i s t h hne
  rcases exec_sweep_cases h with htrigger | hkept | ⟨hcycle, hexpires, hstep, hclock⟩
  · exact .inl htrigger
  · exact absurd (congrArg Sweep.shadow hkept) hne
  · obtain ⟨hsweep, hregs⟩ := Prod.ext_iff.mp hclock
    have hshadow : t.ch1.shadow = (sweepClock s.regs s.ch1.toSweep).1.shadow := congrArg Sweep.shadow hsweep
    rw [hshadow] at hne ⊢
    obtain ⟨hle, hfreq⟩ := sweepClock_commits hne
    rw [← hregs, freq1, frequency_eq] at hfreq
    exact .inr ⟨hcycle, hexpires, hstep, hle, hfreq⟩

end Sys2Proof.Machine
end

section
/-! Lemmas and proofs for the statements of 44_wave.md: the step of channel 3 in a CYCLE (O38), the first sample after a
trigger (O54), the READs of NR30 to NR34 (O15), the WRITEs of channels 3 and 4 without a side effect (O21), and the
accesses to the wave table (O19, O28). -/

namespace Sys2Proof.Machine
open Sys2Proof

/-! ### The step of channel 3 -/

/-- The sample at a position is a nibble of its byte, the high one first (R348). -/
theorem waveSample_eq (c : Ch3) (p : Nat) : waveSample c p =
    if p % 2 = 0 then (waveByte (p / 2) c).toNat / 16 else (waveByte (p / 2) c).toNat % 16 := by
  have hhigh : ((waveByte (p / 2) c).extractLsb' 4 4).toNat = (waveByte (p / 2) c).toNat / 16 := envVolume_eq _
  have hlow : ((waveByte (p / 2) c).extractLsb' 0 4).toNat = (waveByte (p / 2) c).toNat % 16 := lowField_toNat _ 4
  rw [waveSample, hhigh, hlow]

/-- A sample shifted by the volume code in bits 6-5 of NR32: silence, the sample, its half, its quarter (R349). -/
theorem shiftRight_waveShift {n : Nat} (hn : n ≤ 15) (nr32 : Byte) : n >>> waveShift (volumeCode nr32) =
    if nr32.toNat / 32 % 4 = 0 then 0 else if nr32.toNat / 32 % 4 = 1 then n
    else if nr32.toNat / 32 % 4 = 2 then n / 2 else n / 4 := by
  have hcode : (volumeCode nr32).toNat = nr32.toNat / 32 % 4 := field_toNat nr32 5 2
  have hlt : nr32.toNat / 32 % 4 < 4 := Nat.mod_lt _ (by decide)
  rw [waveShift, hcode, Nat.shiftRight_eq_div_pow]
  interval_cases nr32.toNat / 32 % 4
  · exact Nat.div_eq_of_lt (Nat.lt_succ_of_le hn)
  · exact Nat.div_one n
  · rfl
  · rfl

/-- The sequencer's part writes no register channel 3 reads: its step sees those before the CYCLE (R420). -/
theorem cycle_ch3 {s : State} (hf : s.fault = none) (hk : s.ctl.seqStep ≤ 7) :
    (downsample (stepAll (sequencerPhase s))).ch3 = stepped3 s.config s.regs (sequencerPhase s).ch3 := by
  obtain ⟨hconfig, _, _⟩ := sequencerPhase_inputs hf hk
  rw [downsample_ch3, stepAll_spec, hconfig, sequencerPhase_regs_frame hf hk]
  rfl

theorem sequencerPhase_accessAge {s : State} (hf : s.fault = none) (hk : s.ctl.seqStep ≤ 7) :
    (sequencerPhase s).ch3.accessAge = s.ch3.accessAge := by
  rw [sequencerPhase_spec hf hk]

/-- Settles O38: the sequencer's part leaves all that the step of channel 3 reads. -/
theorem cycleWaveStep : Obligations.CycleWaveStep := by
  unfold Obligations.CycleWaveStep
  intro s hf hk
  refine ⟨_, execCycle_inRange hf hk, ?_⟩
  obtain ⟨htimer, hamp⟩ := (sequencerPhase_pulse hf hk).1 .ch3
  have hpos : (sequencerPhase s).ch3.pos = s.ch3.pos := sequencerPhase_generatorPoint hf hk .ch3
  simp only [chanOf] at htimer hamp
  rw [cycle_ch3 hf hk, ← htimer]
  refine ⟨by rw [stepped3_accessAge, sequencerPhase_accessAge hf hk], ?_⟩
  split
  next ht =>
    rw [stepped3_counting ht]
    exact ⟨rfl, hpos, hamp⟩
  next ht =>
    rw [stepped3_expiring (Nat.not_lt.mp ht), shiftRight_waveShift (waveSample_le _ _), waveSample_eq, waveByte,
      sequencerPhase_wave hf hk, hpos]
    exact ⟨congrArg waveReload (frequency_eq _ _), rfl, rfl⟩

/-! ### The first sample after a trigger -/

/-- What CYCLEs keep of a state `s` for channel 3 to play from: the wave table, and the registers but NR13 and NR14. -/
structure PlaybackHeld (s v : State) : Prop extends Awaiting s.answers v where
  wave : v.ch3.wave = s.ch3.wave
  regs : v.regs = { s.regs with nr13 := v.regs.nr13, nr14 := v.regs.nr14 }

theorem PlaybackHeld.cycle {s v : State} (h : PlaybackHeld s v) : ∃ t, exec .cycle v = .next t ∧ PlaybackHeld s t := by
  obtain ⟨t, he, hregs, _, _, hwave, _⟩ := cycleFrame v h.correct h.seqStep
  rw [h.regs] at hregs
  exact ⟨t, he, h.toAwaiting.cycle he, hwave.trans h.wave, hregs⟩

/-- The frame of a CYCLE (O36), for any number of them. -/
theorem playbackHeld_of_runAll_cycles {s t : State} (hf : s.fault = none) (hk : s.ctl.seqStep ≤ 7) {n : Nat}
    (hrun : runAll (List.replicate n .cycle) s = .next t) : PlaybackHeld s t := by
  obtain ⟨v, hv, hheld⟩ := runAll_cycles (P := fun _ => PlaybackHeld s) (fun _ _ h => h.cycle) n 0
    { correct := hf, seqStep := hk, answers := rfl, wave := rfl, regs := rfl }
  obtain rfl := Host.Outcome.next.inj (hrun.symm.trans hv)
  exact hheld

/-- At an expiry channel 3 advances from position 0 to 1 and fetches the sample there (R347). -/
theorem CountingDown.firstSample {amp : Nat} {s : State} (h : CountingDown .ch3 1 0 amp s) :
    ∃ t, exec .cycle s = .next t ∧ t.ch3.pos = 1 ∧
      t.ch3.amp = waveSample t.ch3 1 >>> waveShift (volumeCode t.regs.nr32) := by
  obtain ⟨hf, hk, htimer, hpoint, _⟩ := h
  obtain ⟨hcount, _⟩ := (sequencerPhase_pulse hf hk).1 .ch3
  have hnext : nextPos (sequencerPhase s).ch3.pos = 1 :=
    congrArg nextPos ((sequencerPhase_generatorPoint hf hk .ch3).trans hpoint)
  refine ⟨_, execCycle_inRange hf hk, ?_⟩
  rw [downsample_ch3, stepAll_spec, stepped3_expiring (hcount.trans htimer).le, hnext]
  exact ⟨rfl, rfl⟩

/-- The reload is at least 2, as a frequency has 11 bits (R208, R346). -/
theorem waveReload_frequency_pos (lo hi : Byte) : 0 < (2048 - (hi.toNat % 8 * 256 + lo.toNat)) * 2 := by
  have hpos := pulseReload_frequency_pos lo hi
  omega

/-- A trigger of channel 3 leaves the timer at the reload, the position and the amplitude at 0, and the wave table and
the volume code as they were (R215, R346, R350). -/
theorem countingDown_of_trigger3 {s : State} (hf : s.fault = none) (hk : s.ctl.seqStep ≤ 7) {d : Byte}
    (hd : d.getLsbD 7 = true) : ∃ u, exec (.wrNr34 d) s = .next u ∧
      CountingDown .ch3 ((2048 - (d.toNat % 8 * 256 + s.regs.nr33.toNat)) * 2) 0 0 u ∧
      u.ch3.wave = s.ch3.wave ∧ u.regs.nr32 = s.regs.nr32 := by
  have hwrite := channel3TriggerWrite s d hf
  rw [hd, if_neg (by decide)] at hwrite
  exact ⟨_, hwrite, ⟨hf, hk, rfl, rfl, rfl⟩, rfl, rfl⟩

/-- Settles O54: a trigger starts the countdown at the reload, and the CYCLE that ends it fetches sample 1, the low
nibble of a byte 0 no CYCLE has written. -/
theorem waveFirstSampleAfterTrigger : Obligations.WaveFirstSampleAfterTrigger := by
  unfold Obligations.WaveFirstSampleAfterTrigger
  intro s d n hf hk hd hn
  obtain ⟨u, hwrite, hu, huwave, hunr32⟩ := countingDown_of_trigger3 hf hk hd
  obtain ⟨t, hrun, hout⟩ := hu.runAll_upToExpiry (waveReload_frequency_pos _ _) (fun _ hv => hv.firstSample) hn
  refine ⟨t, (runAll_cons hwrite).trans hrun, ?_⟩
  split
  next hlast =>
    obtain ⟨hpos, hamp⟩ := (if_pos hlast).mp hout
    have hheld := playbackHeld_of_runAll_cycles hu.correct hu.seqStep hrun
    have hnr32 : t.regs.nr32 = s.regs.nr32 := (congrArg RegFile.nr32 hheld.regs).trans hunr32
    rw [waveSample_eq, waveByte, hheld.wave, huwave, hnr32] at hamp
    exact ⟨hpos, hamp⟩
  next hbefore => exact (if_neg hbefore).mp hout

/-! ### READs and plain WRITEs -/

/-- Settles O15: NR31 and NR33 have only masked bits. -/
theorem channel3RegisterReads : Obligations.Channel3RegisterReads := by
  unfold Obligations.Channel3RegisterReads
  intro s hf
  exact ⟨answerReg_outcome hf (r := .nr30) rfl, answerReg_outcome hf (r := .nr31) BitVec.or_allOnes,
    answerReg_outcome hf (r := .nr32) rfl, answerReg_outcome hf (r := .nr33) BitVec.or_allOnes,
    answerReg_outcome hf (r := .nr34) rfl⟩

/-- Settles O21: each WRITE is a store of its register, and the DAC predicate is computed from the byte stored. -/
theorem waveAndNoisePlainWrites : Obligations.WaveAndNoisePlainWrites := by
  unfold Obligations.WaveAndNoisePlainWrites
  intro s d hf
  exact ⟨stimulus_none hf, stimulus_none hf, stimulus_none hf, stimulus_none hf, stimulus_none hf, stimulus_none hf,
    fun hd => silent_of_dac_off (s := { s with regs := { s.regs with nr30 := d } }) (c := .ch3) hd,
    fun hd => silent_of_dac_off (s := { s with regs := { s.regs with nr42 := d } }) (c := .ch4) (envelopeDac_eq_false hd)⟩

/-! ### Accesses to the wave table -/

/-- An access is arbitrated exactly if it does not go straight to its byte: in the other mode, channel 3 playing. -/
theorem waveAccessDirect_eq_false {s : State} (h : ¬ (s.config.waveRamAccess = .direct ∨ isEnabled s .ch3 = false)) :
    waveAccessDirect s = false :=
  Bool.eq_false_iff.mpr (mt waveAccessDirect_iff.mp h)

/-- Settles O19: the two cases of `readWave`. -/
theorem waveReads : Obligations.WaveReads := by
  unfold Obligations.WaveReads
  intro s k hf
  refine (stimulus_none hf).trans (congrArg _ ?_)
  split
  next hdirect => exact readWave_direct (waveAccessDirect_iff.mpr hdirect)
  next hplaying => exact readWave_arbitrated (waveAccessDirect_eq_false hplaying)

/-- An arbitrated WRITE stores into the byte being played, once the access window has passed (R344). -/
theorem writeWave_arbitrated {k : Nat} {d : Byte} {s : State} (h : waveAccessDirect s = false) :
    writeWave k d s = if s.config.waveAccessWindow ≤ s.ch3.accessAge
      then { s with ch3 := storeWave (s.ch3.pos / 2) d s.ch3 } else s := by
  simp only [writeWave, waveWriteIndex, h, Bool.false_eq_true, if_false]
  by_cases hage : s.config.waveAccessWindow ≤ s.ch3.accessAge
  · simp only [hage, if_true]
  · simp only [hage, if_false]

/-- Settles O28: the three cases of `writeWave`. -/
theorem waveWrites : Obligations.WaveWrites := by
  unfold Obligations.WaveWrites
  intro s k d hf
  refine (stimulus_none hf).trans (congrArg _ ?_)
  split
  next hdirect => exact writeWave_direct (waveAccessDirect_iff.mpr hdirect)
  next hplaying => exact writeWave_arbitrated (waveAccessDirect_eq_false hplaying)

end Sys2Proof.Machine
end

section
/-! Lemmas and proofs for the statements of 45_noise.md: the LFSR bit by bit (O56), the step of channel 4 in a CYCLE
(O39), the first shift after a trigger (O55), and the READs of NR40 to NR44 (O16). -/

namespace Sys2Proof.Machine
open Sys2Proof

/-! ### The LFSR -/

/-- The bits of a word that holds the feedback in bit `k` and 0 elsewhere. -/
theorem getLsbD_ite_twoPow {w k : Nat} (hk : k < w) (b : Bool) (i : Nat) :
    (if b then BitVec.twoPow w k else 0).getLsbD i = (decide (k = i) && b) := by
  cases b with
  | false => simp
  | true => simp [BitVec.getLsbD_twoPow, hk]

/-- Wide mode: the feedback comes in above the shifted bits (R392). -/
theorem lfsrNext_wide_getLsbD (x : BitVec 15) (i : Nat) : (lfsrNext false x).getLsbD i =
    if i = 14 then lfsrFeedback x else x.getLsbD (i + 1) := by
  have h14 : (0x4000 : BitVec 15) = BitVec.twoPow 15 14 := by decide
  rw [lfsrNext, h14, if_neg Bool.false_ne_true, BitVec.getLsbD_or, BitVec.getLsbD_ushiftRight, Nat.add_comm,
    getLsbD_ite_twoPow (by decide)]
  split
  next hi => simp [hi]
  next hi => simp [Ne.symm hi]

/-- Narrow mode: bit 6 of the wide result becomes the feedback (R392). -/
theorem lfsrNext_narrow_getLsbD (x : BitVec 15) (i : Nat) : (lfsrNext true x).getLsbD i =
    if i = 6 then lfsrFeedback x else (lfsrNext false x).getLsbD i := by
  have h6 : (0x40 : BitVec 15) = BitVec.twoPow 15 6 := by decide
  have hnext : lfsrNext true x =
      (lfsrNext false x &&& ~~~BitVec.twoPow 15 6) ||| (if lfsrFeedback x then BitVec.twoPow 15 6 else 0) := h6 ▸ rfl
  rw [hnext, BitVec.getLsbD_or, getLsbD_ite_twoPow (by decide), BitVec.getLsbD_and, BitVec.getLsbD_not,
    BitVec.getLsbD_twoPow]
  split
  next hi => simp [hi]
  next hi => simpa [Ne.symm hi] using BitVec.lt_of_getLsbD

/-- Every bit after a shift, in both modes (R392). -/
theorem lfsrNext_getLsbD (narrow : Bool) (x : BitVec 15) (i : Nat) : (lfsrNext narrow x).getLsbD i =
    if i = 14 ∨ (i = 6 ∧ narrow = true) then x.getLsbD 0 ^^ x.getLsbD 1 else x.getLsbD (i + 1) := by
  rw [← lfsrFeedback]
  cases narrow with
  | false => simp [lfsrNext_wide_getLsbD]
  | true =>
    rw [lfsrNext_narrow_getLsbD, lfsrNext_wide_getLsbD]
    by_cases h6 : i = 6 <;> simp [h6]

/-- The shift reaches 0 exactly from a word with no bit set but bit 7, which narrow mode alone overwrites. -/
theorem lfsrNext_eq_zero_iff (narrow : Bool) (x : BitVec 15) :
    lfsrNext narrow x = 0 ↔ ∀ j, x.getLsbD j = true → j = 7 ∧ narrow = true := by
  constructor
  · intro h j hj
    have hbit (i : Nat) : (if i = 14 ∨ (i = 6 ∧ narrow = true) then x.getLsbD 0 ^^ x.getLsbD 1
        else x.getLsbD (i + 1)) = false := by
      rw [← lfsrNext_getLsbD, h]
      exact BitVec.getLsbD_zero
    have h1 : x.getLsbD 1 = false := hbit 0
    have hfeedback : (x.getLsbD 0 ^^ x.getLsbD 1) = false := hbit 14
    have h0 : x.getLsbD 0 = false := by rwa [h1, Bool.xor_false] at hfeedback
    cases j with
    | zero => exact absurd (h0.symm.trans hj) Bool.false_ne_true
    | succ i =>
      have hi := hbit i
      have hlt : i + 1 < 15 := BitVec.lt_of_getLsbD hj
      rw [hj] at hi
      split at hi
      next hfed => exact (hfed.resolve_left (by omega)).imp_left (congrArg (· + 1))
      next => cases hi
  · intro h
    have hclear {j : Nat} (hj : ¬(j = 7 ∧ narrow = true)) : x.getLsbD j = false :=
      Bool.eq_false_iff.mpr (mt (h j) hj)
    refine BitVec.eq_of_getLsbD_eq fun i _ => ?_
    rw [lfsrNext_getLsbD, BitVec.ofNat_eq_ofNat, BitVec.getLsbD_zero]
    split
    next =>
      have h0 : x.getLsbD 0 = false := hclear (by simp)
      have h1 : x.getLsbD 1 = false := hclear (by simp)
      rw [h0, h1, Bool.xor_false]
    next hkept => exact hclear fun ⟨hi, hn⟩ => hkept (.inr ⟨Nat.succ.inj hi, hn⟩)

/-- A word with no bit set but bit `k` is 0 or has that bit alone. -/
theorem eq_zero_or_eq_twoPow_iff {w k : Nat} (hk : k < w) (x : BitVec w) :
    x = 0 ∨ x = BitVec.twoPow w k ↔ ∀ j, x.getLsbD j = true → j = k := by
  constructor
  · rintro (rfl | rfl) j hj
    · simp at hj
    · obtain ⟨_, hkj⟩ : k < w ∧ k = j := by simpa [BitVec.getLsbD_twoPow] using hj
      exact hkj.symm
  · intro h
    have hx : x = if x.getLsbD k then BitVec.twoPow w k else 0 := by
      refine BitVec.eq_of_getLsbD_eq fun j _ => ?_
      rw [getLsbD_ite_twoPow hk]
      by_cases hj : k = j
      · subst hj
        simp
      · simpa [hj] using fun hset => hj (h j hset).symm
    cases hbit : x.getLsbD k with
    | false => exact .inl (by simpa [hbit] using hx)
    | true => exact .inr (by simpa [hbit] using hx)

/-- Settles O56: 0x0080 is the word with bit 7 alone. -/
theorem lfsrReachesZeroOnlyFrom0x0080 : Obligations.LfsrReachesZeroOnlyFrom0x0080 := by
  unfold Obligations.LfsrReachesZeroOnlyFrom0x0080
  intro narrow x
  rw [lfsrNext_eq_zero_iff]
  cases narrow with
  | false =>
    simp only [Bool.false_eq_true, and_false, false_and, or_false]
    constructor
    · exact fun h => BitVec.eq_of_getLsbD_eq fun j _ => by simpa using h j
    · rintro rfl
      simp
  | true =>
    simp only [and_true, true_and]
    exact (eq_zero_or_eq_twoPow_iff (by decide) x).symm

/-- The first shift of the trigger's seed (R394). -/
theorem lfsrNext_seed (narrow : Bool) : lfsrNext narrow 0x7FFF = if narrow = true then 0x3FBF else 0x3FFF := by
  cases narrow <;> decide

/-! ### The step of channel 4 -/

theorem sequencerPhase_lfsr {s : State} (hf : s.fault = none) (hk : s.ctl.seqStep ≤ 7) :
    (sequencerPhase s).ch4.lfsr = s.ch4.lfsr :=
  BitVec.eq_of_toNat_eq (sequencerPhase_generatorPoint hf hk .ch4)

/-- The step of channel 4 in a CYCLE sees the NR43 before the CYCLE (R420). -/
theorem cycle_ch4 {s : State} (hf : s.fault = none) (hk : s.ctl.seqStep ≤ 7) :
    (downsample (stepAll (sequencerPhase s))).ch4 = stepped4 s.regs (sequencerPhase s).ch4 := by
  rw [downsample_ch4, stepAll_spec, sequencerPhase_regs_frame hf hk]
  rfl

/-- The amplitude is the volume while LFSR bit 0 is 0 (R393). -/
theorem noiseAmp_eq (x : BitVec 15) (vol : Nat) : noiseAmp x vol = if x.getLsbD 0 = false then vol else 0 := by
  unfold noiseAmp
  cases x.getLsbD 0 <;> rfl

/-- Settles O39: the sequencer's part leaves all that the step of channel 4 reads but the volume. -/
theorem cycleNoiseStep : Obligations.CycleNoiseStep := by
  unfold Obligations.CycleNoiseStep
  intro s hf hk
  refine ⟨_, execCycle_inRange hf hk, ?_⟩
  obtain ⟨htimer, hamp⟩ := (sequencerPhase_pulse hf hk).1 .ch4
  simp only [chanOf] at htimer hamp
  rw [cycle_ch4 hf hk, ← htimer, ← sequencerPhase_lfsr hf hk]
  split
  next ht =>
    rw [stepped4_counting ht]
    exact ⟨rfl, rfl, hamp⟩
  next ht =>
    rw [stepped4_expiring (Nat.not_lt.mp ht)]
    exact ⟨noiseReload_eq _, lfsrNext_getLsbD _ _, noiseAmp_eq _ _⟩

/-! ### The first shift after a trigger -/

/-- At an expiry the LFSR shifts once, in the width mode of NR43 bit 3 (R392). -/
theorem CountingDown.firstShift {x : BitVec 15} {amp : Nat} {s : State} (h : CountingDown .ch4 1 x.toNat amp s) :
    ∃ t, exec .cycle s = .next t ∧ t.ch4.lfsr = lfsrNext (t.regs.nr43.getLsbD 3) x := by
  obtain ⟨hf, hk, htimer, hpoint, _⟩ := h
  obtain ⟨hcount, _⟩ := (sequencerPhase_pulse hf hk).1 .ch4
  have hlfsr : (sequencerPhase s).ch4.lfsr = x := (sequencerPhase_lfsr hf hk).trans (BitVec.eq_of_toNat_eq hpoint)
  refine ⟨_, execCycle_inRange hf hk, ?_⟩
  rw [downsample_ch4, stepAll_spec, stepped4_expiring (hcount.trans htimer).le, hlfsr]
  rfl

/-- A WRITE of NR44 with bit 7 set stores the byte and triggers channel 4 (R390). -/
theorem exec_wrNr44_trigger {s : State} (hf : s.fault = none) {d : Byte} (hd : d.getLsbD 7 = true) :
    exec (.wrNr44 d) s = .next (triggerCh4 (storeReg .nr44 d s)) := by
  have hwrite := writeNrx4_outcome hf d .nr44 triggerCh4
  rwa [hd, if_neg (by decide)] at hwrite

/-- The trigger leaves the timer at the reload and the LFSR at all ones, with amplitude 0 (R215, R394). -/
theorem countingDown_triggerCh4 {s : State} (hf : s.fault = none) (hk : s.ctl.seqStep ≤ 7) :
    CountingDown .ch4 (noiseReload s.regs.nr43) (0x7FFF : BitVec 15).toNat 0 (triggerCh4 s) := by
  rw [triggerCh4_eq]
  exact ⟨hf, hk, rfl, rfl, rfl⟩

/-- Settles O55: the trigger starts the countdown at the reload, and the CYCLE that ends it shifts the seed once, in the
width mode of an NR43 no CYCLE has written. -/
theorem noiseFirstShiftAfterTrigger : Obligations.NoiseFirstShiftAfterTrigger := by
  unfold Obligations.NoiseFirstShiftAfterTrigger
  intro s d n hf hk hd
  have hwrite := exec_wrNr44_trigger hf hd
  refine ⟨fun hcode hshift => ?_, ⟨_, hwrite, ?_⟩, fun hn => ?_⟩
  · rw [noiseReload_eq, hcode, hshift]
    rfl
  · rw [triggerCh4_eq]
    exact ⟨rfl, rfl, rfl, rfl, rfl⟩
  · have hu := countingDown_triggerCh4 (s := storeReg .nr44 d s) hf hk
    obtain ⟨t, hrun, hout⟩ := hu.runAll_upToExpiry (noiseReload_pos _) (fun _ hv => hv.firstShift) hn
    refine ⟨t, (runAll_cons hwrite).trans hrun, ?_⟩
    split
    next hbefore =>
      obtain ⟨hpoint, _⟩ := (if_neg hbefore.ne).mp hout
      exact BitVec.eq_of_toNat_eq hpoint
    next hlast =>
      have hlfsr := (if_pos (hn.antisymm (Nat.not_lt.mp hlast))).mp hout
      have hheld := playbackHeld_of_runAll_cycles hu.correct hu.seqStep hrun
      have hnr43 : t.regs.nr43 = s.regs.nr43 := (congrArg RegFile.nr43 hheld.regs).trans rfl
      rw [hlfsr, hnr43, lfsrNext_seed]

/-! ### READs -/

/-- Settles O16: NR42 and NR43 have no masked bit, NR40 and NR41 only masked ones. -/
theorem channel4RegisterReads : Obligations.Channel4RegisterReads := by
  unfold Obligations.Channel4RegisterReads
  intro s hf
  exact ⟨answerReg_outcome hf (r := .nr40) BitVec.or_allOnes, answerReg_outcome hf (r := .nr41) BitVec.or_allOnes,
    answerReg_outcome hf (r := .nr42) BitVec.or_zero, answerReg_outcome hf (r := .nr43) BitVec.or_zero,
    answerReg_outcome hf (r := .nr44) rfl⟩

end Sys2Proof.Machine
end

section
/-! Lemmas and proofs for the statements of 46_sequencer_mixer.md: what a CYCLE makes of the controller (O31, O40), the
mixer's bounds (O41) and monotonicity (O43), and the controller's schedule from reset (O57, O58). -/

namespace Sys2Proof.Machine
open Sys2Proof

/-! ### The controller in a CYCLE -/

/-- The sequencer's part leaves what the downsampler keeps (R420). -/
theorem sequencerPhase_downsampler {s : State} (hf : s.fault = none) (hk : s.ctl.seqStep ≤ 7) :
    (sequencerPhase s).ctl.sampleCount = s.ctl.sampleCount ∧ (sequencerPhase s).ctl.buffer = s.ctl.buffer ∧
    (sequencerPhase s).ctl.out = s.ctl.out := by
  rw [sequencerPhase_spec hf hk]
  exact ⟨rfl, rfl, rfl⟩

theorem cycle_sequencer {s : State} (hf : s.fault = none) (hk : s.ctl.seqStep ≤ 7) :
    let t := downsample (stepAll (sequencerPhase s))
    t.ctl.seqStep = (if s.ctl.seqCount - 1 = 0 then (s.ctl.seqStep + 1) % 8 else s.ctl.seqStep) ∧
    t.ctl.seqCount = (if s.ctl.seqCount - 1 = 0 then seqReload s.config else s.ctl.seqCount - 1) := by
  intro t
  have hstep : t.ctl.seqStep = (sequencerPhase s).ctl.seqStep := downsampled_seqStep _
  have hcount : t.ctl.seqCount = (sequencerPhase s).ctl.seqCount := downsampled_seqCount _
  rw [hstep, hcount, sequencerPhase_spec hf hk]
  simp only [seqExpires_iff, and_self]

theorem downsampled_sampleCount (s : State) : (downsampled s).sampleCount =
    if s.ctl.sampleCount - 1 = 0 then sampleReload s.config else s.ctl.sampleCount - 1 := by
  unfold downsampled
  split
  · exact emitPair_sampleCount _ _ _ _
  · rfl

theorem cycle_sampleCount {s : State} (hf : s.fault = none) (hk : s.ctl.seqStep ≤ 7) :
    (downsample (stepAll (sequencerPhase s))).ctl.sampleCount =
      if s.ctl.sampleCount - 1 = 0 then sampleReload s.config else s.ctl.sampleCount - 1 := by
  obtain ⟨hconfig, _⟩ := sequencerPhase_inputs hf hk
  obtain ⟨hcount, _⟩ := sequencerPhase_downsampler hf hk
  rw [← hconfig, ← hcount]
  exact downsampled_sampleCount (stepAll (sequencerPhase s))

/-- Settles O31: the channel steps leave both countdowns, and the downsampler leaves that of the sequencer. -/
theorem cycleCountdowns : Obligations.CycleCountdowns := by
  unfold Obligations.CycleCountdowns
  intro s hf hk
  have hcycle := execCycle_inRange hf hk
  obtain ⟨hstep, hcount⟩ := cycle_sequencer hf hk
  refine ⟨_, hcycle, (Awaiting.cycle ⟨hf, hk, rfl⟩ hcycle).correct, ?_, ?_⟩
  · rw [hstep, hcount]
    split <;> exact ⟨rfl, rfl⟩
  · rw [cycle_sampleCount hf hk]
    split <;> rfl

/-! ### Mixing and emission -/

/-- The left sample with the fields of NR50 and NR51 as numbers (R61, R62, R427). -/
theorem mixLeft_eq (s : State) : mixLeft s =
    BitVec.ofNat 8 (mixSide (sideSum (routedLeft s.regs.nr51) s) (s.regs.nr50.toNat / 16 % 8) s.config) := by
  rw [mixLeft, leftVolume_eq]

theorem mixRight_eq (s : State) : mixRight s =
    BitVec.ofNat 8 (mixSide (sideSum (routedRight s.regs.nr51) s) (s.regs.nr50.toNat % 8) s.config) := by
  rw [mixRight, rightVolume_eq]

/-- The pair is appended; a buffer it fills goes out and is emptied (R430, R431). -/
theorem emitPair_buffer_out (n : Nat) (l r : Byte) (c : Controller) :
    if c.buffer.length + 2 = n then
      (emitPair n l r c).buffer = [] ∧ (emitPair n l r c).out = c.out ++ [c.buffer ++ [l, r]]
    else (emitPair n l r c).buffer = c.buffer ++ [l, r] ∧ (emitPair n l r c).out = c.out := by
  split
  next hfull => rw [emitPair_filling hfull]; exact ⟨rfl, rfl⟩
  next hroom => rw [emitPair_appending hroom]; exact ⟨rfl, rfl⟩

/-- The downsampler emits at an expiry and at no other time (R424, R429). -/
theorem downsampled_buffer_out (s : State) :
    if s.ctl.sampleCount - 1 = 0 then
      if s.ctl.buffer.length + 2 = s.config.bufferCapacity then
        (downsampled s).buffer = [] ∧ (downsampled s).out = s.ctl.out ++ [s.ctl.buffer ++ [mixLeft s, mixRight s]]
      else (downsampled s).buffer = s.ctl.buffer ++ [mixLeft s, mixRight s] ∧ (downsampled s).out = s.ctl.out
    else (downsampled s).buffer = s.ctl.buffer ∧ (downsampled s).out = s.ctl.out := by
  unfold downsampled
  split
  · exact emitPair_buffer_out _ _ _ { s.ctl with sampleCount := sampleReload s.config }
  · exact ⟨rfl, rfl⟩

/-- The samples emitted in a CYCLE are those the state after it mixes: the downsampler comes last and changes nothing the
mixer reads (R420). -/
theorem cycle_buffer_out {s : State} (hf : s.fault = none) (hk : s.ctl.seqStep ≤ 7) :
    let t := downsample (stepAll (sequencerPhase s))
    if s.ctl.sampleCount - 1 = 0 then
      if s.ctl.buffer.length + 2 = s.config.bufferCapacity then
        t.ctl.buffer = [] ∧ t.ctl.out = s.ctl.out ++ [s.ctl.buffer ++ [mixLeft t, mixRight t]]
      else t.ctl.buffer = s.ctl.buffer ++ [mixLeft t, mixRight t] ∧ t.ctl.out = s.ctl.out
    else t.ctl.buffer = s.ctl.buffer ∧ t.ctl.out = s.ctl.out := by
  obtain ⟨hconfig, _⟩ := sequencerPhase_inputs hf hk
  obtain ⟨hcount, hbuffer, hout⟩ := sequencerPhase_downsampler hf hk
  rw [← hconfig, ← hcount, ← hbuffer, ← hout]
  exact downsampled_buffer_out (stepAll (sequencerPhase s))

/-- Settles O40: `mixLeft` and `mixRight` are the two sides as R427 spells them out, of the state after the CYCLE. -/
theorem cycleEmitsAndFlushes : Obligations.CycleEmitsAndFlushes := by
  unfold Obligations.CycleEmitsAndFlushes
  intro s hf hk _
  refine ⟨_, execCycle_inRange hf hk, ?_⟩
  have hemit := cycle_buffer_out hf hk
  have hconfig : (downsample (stepAll (sequencerPhase s))).config = s.config := (sequencerPhase_inputs hf hk).1
  simp only [mixLeft_eq, mixRight_eq, hconfig] at hemit
  exact hemit

/-! ### The mixer's bounds and monotonicity -/

/-- The clamp keeps a sample within a byte (R427, R428). -/
theorem mixSide_toNat (sum volume : Nat) (c : Config) :
    (BitVec.ofNat 8 (mixSide sum volume c)).toNat = mixSide sum volume c := by
  have hclamp : mixSide sum volume c ≤ c.sampleMax.toNat := Nat.min_le_right _ _
  rw [BitVec.toNat_ofNat, Nat.mod_eq_of_lt (hclamp.trans_lt c.sampleMax.isLt)]

theorem mixSide_le_sampleMax (sum volume : Nat) (c : Config) :
    BitVec.ofNat 8 (mixSide sum volume c) ≤ c.sampleMax := by
  rw [BitVec.le_def, mixSide_toNat]
  exact Nat.min_le_right _ _

/-- A sum of at most 60 and a volume of at most 7 stay below a clamp at 255 (R428). -/
theorem mixSide_unclamped {sum volume : Nat} (hs : sum ≤ 60) (hv : volume < 8) {c : Config} (hc : c.sampleMax = 255) :
    mixSide sum volume c = sum / 4 * volume := by
  have hmix : sum / 4 * volume ≤ 15 * 7 := Nat.mul_le_mul (by omega) (by omega)
  have hmax : c.sampleMax.toNat = 255 := congrArg BitVec.toNat hc
  rw [mixSide, hmax]
  omega

/-- Settles O41: four amplitudes of at most 15 sum to at most 60, so either side is at most 15 * 7. -/
theorem mixIsAtMost105 : Obligations.MixIsAtMost105 := by
  unfold Obligations.MixIsAtMost105
  intro s h
  refine ⟨mixLeft_le h, mixRight_le h, mixSide_le_sampleMax _ _ _, mixSide_le_sampleMax _ _ _, fun hmax => ?_⟩
  have hlevel : ∀ n : Nat, n % 8 < 8 := fun n => Nat.mod_lt n (by decide)
  rw [mixLeft_eq, mixRight_eq, mixSide_toNat, mixSide_toNat]
  exact ⟨mixSide_unclamped (sideSum_le h _) (hlevel _) hmax, mixSide_unclamped (sideSum_le h _) (hlevel _) hmax⟩

theorem sideSum_mono {s s' : State} (h : ∀ c, outputAmplitude s c ≤ outputAmplitude s' c) (routed : Channel → Bool) :
    sideSum routed s ≤ sideSum routed s' := by
  have hside : ∀ c, (if routed c then outputAmplitude s c else 0) ≤ if routed c then outputAmplitude s' c else 0 := by
    intro c
    split
    · exact h c
    · exact le_rfl
  exact Nat.add_le_add (Nat.add_le_add (Nat.add_le_add (hside .ch1) (hside .ch2)) (hside .ch3)) (hside .ch4)

theorem mixSide_mono {sum sum' : Nat} (h : sum ≤ sum') (volume : Nat) (c : Config) :
    mixSide sum volume c ≤ mixSide sum' volume c :=
  min_le_min_right _ (Nat.mul_le_mul_right _ (Nat.div_le_div_right h))

/-- Settles O43: each part of the mixer, the sum, the scaling and the clamp, is monotone. -/
theorem mixIsMonotone : Obligations.MixIsMonotone := by
  unfold Obligations.MixIsMonotone
  intro s s' hregs hconfig h
  simp only [mixLeft, mixRight, hregs, hconfig, mixSide_toNat]
  exact ⟨mixSide_mono (sideSum_mono h _) _ _, mixSide_mono (sideSum_mono h _) _ _⟩

/-! ### The schedule from reset -/

/-- One count later, a counter modulo `r` has wrapped around once more, or stands one higher. -/
theorem succ_div_mod {r : Nat} (hr : 1 ≤ r) (n : Nat) :
    if n % r + 1 = r then (n + 1) / r = n / r + 1 ∧ (n + 1) % r = 0
    else (n + 1) / r = n / r ∧ (n + 1) % r = n % r + 1 := by
  have hlt : n % r < r := Nat.mod_lt n hr
  have hn : n % r + r * (n / r) = n := Nat.mod_add_div n r
  split
  next hwrap =>
    refine (Nat.div_mod_unique hr).mpr ⟨?_, hr⟩
    rw [Nat.mul_add_one]
    omega
  next hbelow => exact (Nat.div_mod_unique hr).mpr ⟨by omega, by omega⟩

/-- A countdown that is reloaded with `r` where it reaches 0 keeps standing at `r` less the CYCLEs since (R424). -/
theorem countdown_succ {r : Nat} (hr : 1 ≤ r) (n : Nat) :
    (if r - n % r - 1 = 0 then r else r - n % r - 1) = r - (n + 1) % r := by
  have hlt : n % r < r := Nat.mod_lt n hr
  have hnext := succ_div_mod hr n
  split at hnext <;> split <;> omega

/-- It has expired once for each `r` CYCLEs. -/
theorem expiries_succ {r : Nat} (hr : 1 ≤ r) (n : Nat) :
    (n + 1) / r = if r - n % r - 1 = 0 then n / r + 1 else n / r := by
  have hlt : n % r < r := Nat.mod_lt n hr
  have hnext := succ_div_mod hr n
  split at hnext <;> split <;> omega

/-- Where `pairs` emissions into buffers of the given capacity leave the controller, from an empty one (R430, R431). -/
structure Emitted (capacity pairs : Nat) (k : Controller) : Prop where
  handed : k.out.length = pairs / (capacity / 2)
  full : ∀ bs ∈ k.out, bs.length = capacity
  held : k.buffer.length = 2 * (pairs % (capacity / 2))

theorem Emitted.congr {capacity pairs : Nat} {k k' : Controller} (h : Emitted capacity pairs k)
    (hbuffer : k'.buffer = k.buffer) (hout : k'.out = k.out) : Emitted capacity pairs k' where
  handed := hout ▸ h.handed
  full := hout ▸ h.full
  held := hbuffer ▸ h.held

/-- The pair that fills the buffer is the last of `capacity / 2`. -/
theorem Emitted.emitPair {capacity pairs : Nat} {k : Controller} (h : Emitted capacity pairs k)
    (heven : capacity % 2 = 0) (htwo : 2 ≤ capacity) (l r : Byte) :
    Emitted capacity (pairs + 1) (emitPair capacity l r k) := by
  obtain ⟨hhanded, hfull, hheld⟩ := h
  have hnext := succ_div_mod (r := capacity / 2) (by omega) pairs
  by_cases hfills : k.buffer.length + 2 = capacity
  · rw [if_pos (by omega)] at hnext
    obtain ⟨hdiv, hmod⟩ := hnext
    have hlen : (k.buffer ++ [l, r]).length = capacity := by simpa using hfills
    rw [emitPair_filling hfills]
    exact {
      handed := by rw [List.length_append, hhanded, hdiv, List.length_singleton]
      full := List.forall_mem_append.mpr ⟨hfull, List.forall_mem_singleton.mpr hlen⟩
      held := by rw [hmod]; rfl }
  · rw [if_neg (by omega)] at hnext
    obtain ⟨hdiv, hmod⟩ := hnext
    rw [emitPair_appending hfills]
    exact {
      handed := hhanded.trans hdiv.symm
      full := hfull
      held := by rw [List.length_append, hheld, hmod, Nat.mul_add_one]; rfl }

/-- The downsampler emits one pair at an expiry and none without (R429). -/
theorem Emitted.downsampled {pairs : Nat} {s : State} (h : Emitted s.config.bufferCapacity pairs s.ctl)
    (hcfg : configValid s.config = true) :
    Emitted s.config.bufferCapacity (if s.ctl.sampleCount - 1 = 0 then pairs + 1 else pairs) (downsampled s) := by
  obtain ⟨_, _, heven, htwo⟩ := configValid_iff.mp hcfg
  unfold Machine.downsampled
  split
  · have hreloaded : Emitted s.config.bufferCapacity pairs { s.ctl with sampleCount := sampleReload s.config } :=
      h.congr rfl rfl
    exact hreloaded.emitPair heven htwo _ _
  · exact h.congr rfl rfl

theorem Emitted.cycle {pairs : Nat} {s : State} (h : Emitted s.config.bufferCapacity pairs s.ctl) (hf : s.fault = none)
    (hk : s.ctl.seqStep ≤ 7) (hcfg : configValid s.config = true) :
    Emitted s.config.bufferCapacity (if s.ctl.sampleCount - 1 = 0 then pairs + 1 else pairs)
      (downsample (stepAll (sequencerPhase s))).ctl := by
  obtain ⟨hconfig, _⟩ := sequencerPhase_inputs hf hk
  obtain ⟨hcount, hbuffer, hout⟩ := sequencerPhase_downsampler hf hk
  have hphase : Emitted s.config.bufferCapacity pairs (sequencerPhase s).ctl := h.congr hbuffer hout
  rw [← hconfig] at hphase hcfg
  rw [← hconfig, ← hcount]
  exact Emitted.downsampled (s := stepAll (sequencerPhase s)) hphase hcfg

/-- Where `n` CYCLEs from reset leave the controller (R422, R424, R429 to R431). -/
structure OnSchedule (c : Config) (n : Nat) (s : State) : Prop where
  config : s.config = c
  correct : s.fault = none
  seqStep : s.ctl.seqStep = n / seqReload c % 8
  seqCount : s.ctl.seqCount = seqReload c - n % seqReload c
  sampleCount : s.ctl.sampleCount = sampleReload c - n % sampleReload c
  emitted : Emitted c.bufferCapacity (n / sampleReload c) s.ctl

theorem onSchedule_reset (c : Config) : OnSchedule c 0 (State.resetWith c) where
  config := rfl
  correct := rfl
  seqStep := by rw [Nat.zero_div]; rfl
  seqCount := by rw [Nat.zero_mod]; rfl
  sampleCount := by rw [Nat.zero_mod]; rfl
  emitted := by
    rw [Nat.zero_div]
    exact ⟨(Nat.zero_div _).symm, List.forall_mem_nil _, by rw [Nat.zero_mod]; rfl⟩

theorem OnSchedule.cycle {c : Config} (hc : configValid c = true) {n : Nat} {s : State} (h : OnSchedule c n s) :
    ∃ t, exec .cycle s = .next t ∧ OnSchedule c (n + 1) t := by
  obtain ⟨rfl, hf, hstep, hcount, hsample, hemitted⟩ := h
  obtain ⟨hseq, hsamples, _, _⟩ := configValid_iff.mp hc
  have hk : s.ctl.seqStep ≤ 7 := by omega
  have hcycle := execCycle_inRange hf hk
  obtain ⟨hconfig, _⟩ := sequencerPhase_inputs hf hk
  obtain ⟨hstep', hcount'⟩ := cycle_sequencer hf hk
  refine ⟨_, hcycle, {
    config := hconfig
    correct := (Awaiting.cycle ⟨hf, hk, rfl⟩ hcycle).correct
    seqStep := ?_
    seqCount := by rw [hcount', hcount, countdown_succ hseq]
    sampleCount := by rw [cycle_sampleCount hf hk, hsample, countdown_succ hsamples]
    emitted := ?_ }⟩
  · rw [hstep', hcount, hstep, expiries_succ hseq]
    split
    · exact Nat.mod_add_mod _ _ _
    · rfl
  · rw [expiries_succ hsamples, ← hsample]
    exact hemitted.cycle hf hk hc

theorem onSchedule_of_cycles {c : Config} (hc : configValid c = true) (n : Nat) :
    ∃ t, runAll (List.replicate n .cycle) (State.resetWith c) = .next t ∧ OnSchedule c n t := by
  obtain ⟨t, hrun, ht⟩ := runAll_cycles (P := OnSchedule c) (fun _ _ h => h.cycle hc) n 0 (onSchedule_reset c)
  exact ⟨t, hrun, Nat.zero_add n ▸ ht⟩

/-- Settles O57: a buffer is handed over at every `BUFFER_CAPACITY / 2`-th expiry of the sample countdown. -/
theorem bufferFlushesOnSchedule : Obligations.BufferFlushesOnSchedule := by
  unfold Obligations.BufferFlushesOnSchedule
  intro c n hc
  obtain ⟨t, hrun, ht⟩ := onSchedule_of_cycles hc n
  obtain ⟨hhanded, hfull, hheld⟩ := ht.emitted
  exact ⟨t, hrun, by rw [hhanded, Nat.div_div_eq_div_mul], hfull, hheld, ht.sampleCount⟩

/-- Settles O58: the countdown of the sequencer is on schedule, and its step counts the expiries modulo 8. -/
theorem sequencerTicksOnSchedule : Obligations.SequencerTicksOnSchedule := by
  unfold Obligations.SequencerTicksOnSchedule
  intro c n hc
  obtain ⟨t, hrun, ht⟩ := onSchedule_of_cycles hc n
  exact ⟨t, hrun, ht.correct, ht.seqStep, ht.seqCount⟩

end Sys2Proof.Machine
end

section
/-! Lemmas and proofs for the statements of 60_exceptions.md: a contract violation is final (O10). -/

namespace Sys2Proof.Machine
open Sys2Proof

/-! ### The raw calls out of range -/

theorem apiRead_outOfRange {a : Nat} {s : State} (hf : s.fault = none) (ha : 0xFFFF < a) :
    apiRead a s = raiseFault (.addressOutOfRange a) s :=
  (unlessFaulted_none hf).trans (if_pos ha)

theorem apiWrite_outOfRange {a : Nat} {d : Byte} {s : State} (hf : s.fault = none) (ha : 0xFFFF < a) :
    apiWrite a d s = raiseFault (.addressOutOfRange a) s :=
  (unlessFaulted_none hf).trans (if_pos ha)

/-! ### Every stimulus once the fault mark is set -/

theorem exec_faulted {s : State} {r : Fault} (hf : s.fault = some r) (i : Instr) : exec i s = .next s := by
  obtain ⟨f, hexec⟩ := exec_eq_stimulus i s
  exact hexec.trans (stimulus_some hf)

theorem apiRead_faulted {s : State} {r : Fault} (hf : s.fault = some r) (a : Nat) : apiRead a s = s :=
  unlessFaulted_some hf

theorem apiWrite_faulted {s : State} {r : Fault} (hf : s.fault = some r) (a : Nat) (d : Byte) : apiWrite a d s = s :=
  unlessFaulted_some hf

/-- Settles O10: a raw call out of range is `raiseFault` alone, and every call asks for the fault mark first. -/
theorem contractViolationIsFinal : Obligations.ContractViolationIsFinal := by
  unfold Obligations.ContractViolationIsFinal
  refine ⟨?outOfRangeAddress, ?outOfRangeStep, ?faulted⟩
  case outOfRangeAddress =>
    intro s a d hf ha
    exact ⟨apiRead_outOfRange hf ha, apiWrite_outOfRange hf ha⟩
  case outOfRangeStep =>
    intro s c n hf hn
    exact tickChannel_outOfRange hf hn
  case faulted =>
    intro s r i a n d c hf
    exact ⟨exec_faulted hf i, apiRead_faulted hf a, apiWrite_faulted hf a d, tickChannel_faulted hf⟩

end Sys2Proof.Machine
end
